-- ==== Sys2Proof/Word.lean ====
section
/-! DEFINITION. The word types of HFOC-CORE (spec/00_scope.md R7, R8). -/

namespace Sys2Proof

/-- A command word, and every value read through the command interface (R7). -/
abbrev Word := BitVec 32

/-- An unsigned 8-bit quantity: a fault code, a pattern field (R33, R39). -/
abbrev Byte := BitVec 8

/-- A 16-bit quantity: an immediate, a channel command (R21, R80). -/
abbrev Half := BitVec 16

/-- A 6-bit register selector (R7, R82). -/
abbrev Sel := BitVec 6

end Sys2Proof
end

