-- ==== Sys2Proof/Syntax.lean ====
section
/-! DEFINITION. Syntax: the registers by name, the 26 commands of spec/opcode_table.json (30_encoding.md R84), the
command errors (60_exceptions.md R190), and the pseudo-instructions of 30_encoding.md R91. -/

namespace Sys2Proof

/-- The 39 registers of 10_state.md R21, in the order of their selectors. -/
inductive Reg where
  /-- `CMD_STEER`, selector 0x00: i16, W. -/
  | cmdSteer
  /-- `CMD_SPEED`, selector 0x01: i16, W. -/
  | cmdSpeed
  /-- `RS_STEER`, selector 0x02: i16, W. -/
  | rsSteer
  /-- `RS_SPEED`, selector 0x03: i16, W. -/
  | rsSpeed
  /-- `ACC_STEER`, selector 0x04: i32, W. -/
  | accSteer
  /-- `ACC_SPEED`, selector 0x05: i32, W. -/
  | accSpeed
  /-- `ACC_TEMP`, selector 0x06: i32, W. -/
  | accTemp
  /-- `STEER`, selector 0x07: i32, W. -/
  | steer
  /-- `SPEED`, selector 0x08: i32, W. -/
  | speed
  /-- `MOT_L`, selector 0x09: i16, W. -/
  | motL
  /-- `MOT_R`, selector 0x0A: i16, W. -/
  | motR
  /-- `OUT_L`, selector 0x0B: i16, RO. -/
  | outL
  /-- `OUT_R`, selector 0x0C: i16, RO. -/
  | outR
  /-- `SDC`, selector 0x0D: u8 (0..100), W. -/
  | sdc
  /-- `SPD_L`, selector 0x0E: i16, W. -/
  | spdL
  /-- `SPD_R`, selector 0x0F: i16, W. -/
  | spdR
  /-- `SPEED_AVG`, selector 0x10: i16, RO. -/
  | speedAvg
  /-- `SPEED_AVG_ABS`, selector 0x11: u16 (0..32768), RO. -/
  | speedAvgAbs
  /-- `SPEED_BLEND`, selector 0x12: u16 (0..32768), RO. -/
  | speedBlend
  /-- `TEMP_RAW`, selector 0x13: i16, W. -/
  | tempRaw
  /-- `TEMP_FILT`, selector 0x14: i32, RO. -/
  | tempFilt
  /-- `BAT`, selector 0x15: i16, W. -/
  | bat
  /-- `FAULT_L`, selector 0x16: u8, W. -/
  | faultL
  /-- `FAULT_R`, selector 0x17: u8, W. -/
  | faultR
  /-- `FLAGS_IN`, selector 0x18: u16 (bits 15:8 zero), W. -/
  | flagsIn
  /-- `ENABLE`, selector 0x19: u1, W. -/
  | enable
  /-- `BACKWARD`, selector 0x1A: u1, W. -/
  | backward
  /-- `POWEROFF`, selector 0x1B: u1, RO. -/
  | poweroff
  /-- `CAUSE`, selector 0x1C: u4 (0..11), RO. -/
  | cause
  /-- `ALERT`, selector 0x1D: u32 (rule R39), RO. -/
  | alert
  /-- `INACT_CNT`, selector 0x1E: u32, W. -/
  | inactCnt
  /-- `TICK_CNT`, selector 0x1F: u32, W. -/
  | tickCnt
  /-- `FB_STROBE`, selector 0x20: u1, RO. -/
  | fbStrobe
  /-- `PON_STATE`, selector 0x21: u3 (0..4), W. -/
  | ponState
  /-- `PON_TIMER`, selector 0x22: u16, W. -/
  | ponTimer
  /-- `PON_TAPS`, selector 0x23: u8 (0..2), W. -/
  | ponTaps
  /-- `PON_PRESS`, selector 0x24: u16, W. -/
  | ponPress
  /-- `ERR_CAUSE`, selector 0x25: u4 (0..8), RO. -/
  | errCause
  /-- `ERR_WORD`, selector 0x26: u32, RO. -/
  | errWord
deriving DecidableEq, Repr

/-- The commands of R84, one constructor for each row of the opcode table. `sel` is the selector field `w[13:8]` (R82),
`imm` the field `w[31:16]` (R80, R81). -/
inductive Instr where
  /-- NOP, no operation (R180). -/
  | nop
  /-- LDI, load a 16-bit immediate into the register at `sel` (R181). -/
  | ldi (sel : Sel) (imm : Half)
  /-- LDHI, load the high half of the 32-bit register at `sel` (R182). -/
  | ldhi (sel : Sel) (imm : Half)
  /-- RD, read the register at `sel` into `RDATA` (R183). -/
  | rd (sel : Sel)
  /-- CLRERR, clear the command-error record (R184). -/
  | clrerr
  /-- RLS, rate-limit the steer channel by `step` (R102). -/
  | rls (step : Half)
  /-- RLV, rate-limit the speed channel by `step` (R103). -/
  | rlv (step : Half)
  /-- LPFS, low-pass filter the steer channel with the Q16 coefficient `coef` (R106). -/
  | lpfs (coef : Half)
  /-- LPFV, low-pass filter the speed channel (R107). -/
  | lpfv (coef : Half)
  /-- LPFT, low-pass filter the board temperature (R108). -/
  | lpft (coef : Half)
  /-- SHPS, shape the steer channel (R111). -/
  | shps
  /-- SHPV, shape the speed channel (R112). -/
  | shpv
  /-- SHPT, shape the board temperature (R113). -/
  | shpt
  /-- BLEND, average speed and speed blend (R120). -/
  | blend
  /-- DERATE, apply the derating coefficient (R122). -/
  | derate
  /-- EBRAKE, the electric-brake stage (R124). -/
  | ebrake
  /-- MIX, mix the shaped commands (R131). -/
  | mix
  /-- OUT, output assignment (R134). -/
  | out
  /-- SAMPLE, latch the input ports (R160). -/
  | sample
  /-- SAFETY, evaluate the safety priority list (R141). -/
  | safety
  /-- SLOWDOWN, one slow-down request (R145). -/
  | slowdown
  /-- XITION, interlocked enable/disable transition (R150). -/
  | xition
  /-- INACT, inactivity check (R153). -/
  | inact
  /-- FBSTROBE, tick counter and feedback strobe (R163). -/
  | fbstrobe
  /-- TICK, one run-phase tick (R166). -/
  | tick
  /-- PONSTEP, one poll of the power-on state machine (R170). -/
  | ponstep
deriving DecidableEq, Repr

/-- The command errors of 60_exceptions.md R190. A command error is no stop: the block records it and goes on (R192). -/
inductive CmdError where
  /-- Code 1: an unassigned opcode, or EBRAKE in a block built without it. -/
  | illegalOpcode
  /-- Code 2: a bit outside the format's fields is 1. -/
  | reservedBits
  /-- Code 3: a selector of 0x27 or above. -/
  | badSelector
  /-- Code 4: LDI or LDHI of a read-only register. -/
  | readOnly
  /-- Code 5: LDHI of a register narrower than 32 bits. -/
  | notWide
  /-- Code 6: a command other than NOP and RD while `POWEROFF` is 1. -/
  | halted
  /-- Code 7: TICK outside the run phase, or PONSTEP inside it. -/
  | wrongPhase
  /-- Code 8: LDI of a value outside the register's legal range. -/
  | illegalValue
deriving DecidableEq, Repr

/-- The pseudo-instructions of R91, with the register they name. -/
inductive Pseudo where
  /-- `LI32 REG, #v`: any 32-bit pattern into a 32-bit register. -/
  | li32 (r : Reg) (v : Word)
  /-- `CLR REG`. -/
  | clr (r : Reg)
  /-- `SETIN #m`. -/
  | setin (m : Byte)
deriving DecidableEq, Repr

end Sys2Proof
end

