-- ==== Sys2Proof/WellFormed.lean ====
section
/-! DEFINITION. Well-formed commands: legal fields (30_encoding.md R85, R86; 10_state.md R24). -/

namespace Sys2Proof

/-- A selector that names a register: 0x00 to 0x26 (10_state.md R24, 20_memory.md R61). -/
def Sel.implemented (sel : Sel) : Bool := sel.toNat < 0x27

/-- A command whose fields are legal. Immediates take every 16-bit value (R80, R81); a selector must be implemented. -/
def Instr.wellFormed : Instr → Bool
  | .ldi sel _ => Sel.implemented sel
  | .ldhi sel _ => Sel.implemented sel
  | .rd sel => Sel.implemented sel
  | .nop => true
  | .clrerr => true
  | .rls _ => true
  | .rlv _ => true
  | .lpfs _ => true
  | .lpfv _ => true
  | .lpft _ => true
  | .shps => true
  | .shpv => true
  | .shpt => true
  | .blend => true
  | .derate => true
  | .ebrake => true
  | .mix => true
  | .out => true
  | .sample => true
  | .safety => true
  | .slowdown => true
  | .xition => true
  | .inact => true
  | .fbstrobe => true
  | .tick => true
  | .ponstep => true

end Sys2Proof
end

