-- ==== Sys2Proof/Decode.lean ====
section
/-! DEFINITION. Decoding a command word (30_encoding.md R75 to R87), and the encoder written from the same tables. -/

namespace Sys2Proof

/-- The four formats of R76 to R79. -/
inductive Format where
  /-- No operand (R76). -/
  | N
  /-- Immediate in bits 31:16 (R77). -/
  | I
  /-- Selector in bits 13:8 and immediate in bits 31:16 (R78). -/
  | S
  /-- Selector in bits 13:8 (R79). -/
  | R
deriving DecidableEq, Repr

/-- The bits that must equal the row's match value: the opcode and the reserved bits (R76 to R79). -/
def Format.mask : Format → Word
  | .N => 0xFFFFFFFF#32
  | .I => 0x0000FFFF#32
  | .S => 0x0000C0FF#32
  | .R => 0xFFFFC0FF#32

/-- Formats S and R carry a selector. -/
def Format.hasSelector : Format → Bool
  | .N => false
  | .I => false
  | .S => true
  | .R => true

/-- The opcode field `w[7:0]` (R75). -/
def opcodeField (w : Word) : BitVec 8 := w.extractLsb' 0 8

/-- The selector field `w[13:8]` (R82). -/
def selField (w : Word) : Sel := w.extractLsb' 8 6

/-- The immediate field `w[31:16]` (R80, R81). -/
def immField (w : Word) : Half := w.extractLsb' 16 16

/-- The command an assigned opcode selects, from its format's fields (R84); `none` for an unassigned opcode. -/
def opcodeRow (op : BitVec 8) (sel : Sel) (imm : Half) : Option (Format × Instr) :=
  match op.toNat with
  | 0x00 => some (.N, .nop)
  | 0x01 => some (.S, .ldi sel imm)
  | 0x02 => some (.S, .ldhi sel imm)
  | 0x03 => some (.R, .rd sel)
  | 0x04 => some (.N, .clrerr)
  | 0x10 => some (.I, .rls imm)
  | 0x11 => some (.I, .rlv imm)
  | 0x12 => some (.I, .lpfs imm)
  | 0x13 => some (.I, .lpfv imm)
  | 0x14 => some (.I, .lpft imm)
  | 0x15 => some (.N, .shps)
  | 0x16 => some (.N, .shpv)
  | 0x17 => some (.N, .shpt)
  | 0x18 => some (.N, .blend)
  | 0x19 => some (.N, .derate)
  | 0x1A => some (.N, .ebrake)
  | 0x1B => some (.N, .mix)
  | 0x1C => some (.N, .out)
  | 0x20 => some (.N, .sample)
  | 0x21 => some (.N, .safety)
  | 0x22 => some (.N, .slowdown)
  | 0x23 => some (.N, .xition)
  | 0x24 => some (.N, .inact)
  | 0x28 => some (.N, .fbstrobe)
  | 0x29 => some (.N, .tick)
  | 0x2A => some (.N, .ponstep)
  | _ => none

/-- The generic decode checks of R85, in its order; `halted` is `POWEROFF` = 1, `ebrakeEn` is `P_EBRAKE_EN`. The checks
of the instruction's own rule are in its meaning. -/
def decodeChecked (halted ebrakeEn : Bool) (w : Word) : Except CmdError Instr :=
  let op := opcodeField w
  if halted ∧ op ≠ 0x00#8 ∧ op ≠ 0x03#8 then .error .halted
  else match opcodeRow op (selField w) (immField w) with
    | none => .error .illegalOpcode
    | some (fmt, i) =>
      if op = 0x1A#8 ∧ ebrakeEn = false then .error .illegalOpcode
      else if w &&& fmt.mask ≠ op.setWidth 32 then .error .reservedBits
      else if fmt.hasSelector ∧ Sel.implemented (selField w) = false then .error .badSelector
      else .ok i

/-- What a word means by its encoding alone: the checks of R85 in a running block built with every stage. -/
def decode (w : Word) : Except CmdError Instr := decodeChecked false true w

/-- The decoder on the instruction whose bits are `w`, of `nbits` bits; a command is always one 32-bit word (R75, R89), so
every bit above `nbits` is 0. -/
def decodeTableWord (nbits w : Nat) : Option Instr :=
  match decode (BitVec.ofNat 32 (w % 2 ^ nbits)) with
  | .ok i => some i
  | .error _ => none

/-- A word of format N (R76). -/
def encodeN (op : BitVec 8) : Word := 0#24 ++ op

/-- A word of format I (R77). -/
def encodeI (op : BitVec 8) (imm : Half) : Word := imm ++ 0#8 ++ op

/-- A word of format S (R78). -/
def encodeS (op : BitVec 8) (sel : Sel) (imm : Half) : Word := imm ++ 0#2 ++ sel ++ op

/-- A word of format R (R79). -/
def encodeR (op : BitVec 8) (sel : Sel) : Word := 0#18 ++ sel ++ op

/-- The word of a command (R84). -/
def encode : Instr → Word
  | .nop => encodeN 0x00#8
  | .ldi sel imm => encodeS 0x01#8 sel imm
  | .ldhi sel imm => encodeS 0x02#8 sel imm
  | .rd sel => encodeR 0x03#8 sel
  | .clrerr => encodeN 0x04#8
  | .rls step => encodeI 0x10#8 step
  | .rlv step => encodeI 0x11#8 step
  | .lpfs coef => encodeI 0x12#8 coef
  | .lpfv coef => encodeI 0x13#8 coef
  | .lpft coef => encodeI 0x14#8 coef
  | .shps => encodeN 0x15#8
  | .shpv => encodeN 0x16#8
  | .shpt => encodeN 0x17#8
  | .blend => encodeN 0x18#8
  | .derate => encodeN 0x19#8
  | .ebrake => encodeN 0x1A#8
  | .mix => encodeN 0x1B#8
  | .out => encodeN 0x1C#8
  | .sample => encodeN 0x20#8
  | .safety => encodeN 0x21#8
  | .slowdown => encodeN 0x22#8
  | .xition => encodeN 0x23#8
  | .inact => encodeN 0x24#8
  | .fbstrobe => encodeN 0x28#8
  | .tick => encodeN 0x29#8
  | .ponstep => encodeN 0x2A#8

end Sys2Proof
end

