-- ==== Sys2Proof/Config.lean ====
section
/-! DEFINITION. What a block instance fixes (the parameters of 00_scope.md R6) and what the environment may do (the input
ports of 10_state.md R44), with the free values the environment draws (20_memory.md R66, R69). -/

namespace Sys2Proof

/-- The parameters of one audible pattern: tone count, on-duration ticks, period ticks (00_scope.md R6, R17). -/
structure Pattern where
  count : Byte
  on : Byte
  period : Byte
deriving DecidableEq, Repr

/-- The build-time parameters `P_*` of R6, before their ranges are checked. A field's default value is the default of R6; a
parameter that is OPEN there has none and must be given. -/
structure ParamSet where
  /-- `P_K`: fractional bits of the low-pass accumulators; default 16 (decision D9). -/
  k : Nat := 16
  /-- `P_RATE`: the rate-limiter step of TICK. -/
  rate : Half
  /-- `P_FILTER`: the Q16 coefficient for steer and speed. -/
  filter : Half
  /-- `P_TEMP_COEF`: the Q16 coefficient for the board temperature. -/
  tempCoef : Half
  /-- `P_MIX_F`: fractional bits of the mixer coefficients; default 14 (decision D16). -/
  mixF : Nat := 14
  /-- `P_KS`: mixer speed coefficient. -/
  ks : Int
  /-- `P_KT`: mixer steer coefficient. -/
  kt : Int
  /-- `P_OUT_MAX`: mixer clamp; default 1000 (the document's example). -/
  outMax : Int := 1000
  /-- `P_INV_L`: left output polarity inversion. -/
  invL : Bool
  /-- `P_INV_R`: right output polarity inversion. -/
  invR : Bool
  /-- `P_SDC_DEC`: decrement of a slow-down request. -/
  sdcDec : Nat
  /-- `P_EBRAKE_EN`: electric-brake stage built in; default false (decision D15). -/
  ebrakeEn : Bool := false
  /-- `P_BLEND_LO`: low threshold of the speed-blend ramp. -/
  blendLo : Int
  /-- `P_BLEND_HI`: high threshold of the speed-blend ramp. -/
  blendHi : Int
  /-- `P_TEMP_OFF`: over-temperature threshold. -/
  tempOff : Int
  /-- `P_TEMP_WARN`: temperature warning threshold. -/
  tempWarn : Int
  /-- `P_BAT_DEAD`: critically-low battery threshold. -/
  batDead : Int
  /-- `P_BAT_LVL1`: battery warning level 1. -/
  batLvl1 : Int
  /-- `P_BAT_LVL2`: battery warning level 2. -/
  batLvl2 : Int
  /-- `P_STOP_SPEED`: low speed means an average magnitude below this. -/
  stopSpeed : Nat
  /-- `P_BACK_SPEED`: moving threshold of the backward-motion rule. -/
  backSpeed : Nat
  /-- `P_DB_EN`: enable/disable interlock dead-band. -/
  dbEn : Int
  /-- `P_DB_INACT`: inactivity dead-band. -/
  dbInact : Int
  /-- `P_INACT_N`: inactivity timeout in ticks. -/
  inactN : Nat
  /-- `P_PAT_A` to `P_PAT_H`: audible patterns. -/
  patA : Pattern
  patB : Pattern
  patC : Pattern
  patD : Pattern
  patE : Pattern
  patF : Pattern
  patG : Pattern
  patH : Pattern
  /-- `P_PAT_T`: the transition pattern. -/
  patT : Pattern
  /-- `P_FB_DIV`: a feedback frame is due every this many ticks. -/
  fbDiv : Nat
  /-- `P_TICK_PERIOD`: a positive time; no rule reads it (R6, R221). -/
  tickPeriod : Nat
  /-- `P_CAL_EN`: the calibration-entry window is built. -/
  calEn : Bool
  /-- `P_TAP_MAX`: longest press, in ticks, that is a short tap. -/
  tapMax : Nat
  /-- `P_TAP_WINDOW`: ticks allowed for the two taps. -/
  tapWindow : Nat
  /-- `P_LONG_HOLD`: press length that is a long hold. -/
  longHold : Nat
  /-- `P_CAL_IDLE`: idle ticks after which calibration entry is abandoned. -/
  calIdle : Nat
  /-- `P_TEST_PORT`: the command port exists. -/
  testPort : Bool
deriving DecidableEq, Repr

/-- The legal ranges of R6. -/
def ParamSet.inRange (p : ParamSet) : Bool :=
  decide (p.k ≤ 16)
  && decide (p.mixF ≤ 15)
  && decide (-32768 ≤ p.ks ∧ p.ks ≤ 32767)
  && decide (-32768 ≤ p.kt ∧ p.kt ≤ 32767)
  && decide (1 ≤ p.outMax ∧ p.outMax ≤ 32767)
  && decide (1 ≤ p.sdcDec ∧ p.sdcDec ≤ 100)
  && decide (0 ≤ p.blendLo ∧ p.blendLo < p.blendHi ∧ p.blendHi ≤ 32768)
  && decide (-2147483648 ≤ p.tempOff ∧ p.tempOff ≤ 2147483647)
  && decide (-2147483648 ≤ p.tempWarn ∧ p.tempWarn ≤ 2147483647)
  && decide (-32768 ≤ p.batDead ∧ p.batDead ≤ 32767)
  && decide (-32768 ≤ p.batLvl1 ∧ p.batLvl1 ≤ 32767)
  && decide (-32768 ≤ p.batLvl2 ∧ p.batLvl2 ≤ 32767)
  && decide (1 ≤ p.stopSpeed ∧ p.stopSpeed ≤ 32768)
  && decide (p.backSpeed ≤ 32768)
  && decide (0 ≤ p.dbEn ∧ p.dbEn ≤ 32767)
  && decide (0 ≤ p.dbInact ∧ p.dbInact ≤ 32767)
  && decide (p.inactN ≤ 4294967294)
  && decide (1 ≤ p.fbDiv ∧ p.fbDiv ≤ 4294967295)
  && decide (1 ≤ p.tickPeriod)
  && decide (1 ≤ p.tapMax ∧ p.tapMax ≤ 65535)
  && decide (1 ≤ p.tapWindow ∧ p.tapWindow ≤ 65535)
  && decide (1 ≤ p.longHold ∧ p.longHold ≤ 65535)
  && decide (1 ≤ p.calIdle ∧ p.calIdle ≤ 65535)

/-- A block instance's parameters: R6 refuses a configuration outside the legal ranges, so none can be built here.
Log entry 1. -/
structure Params extends ParamSet where
  /-- Every parameter lies in its legal range. -/
  legal : toParamSet.inRange = true
deriving DecidableEq, Repr

/-- The pattern triple (n, 10, 20) that 95_test_vectors.md section 0 gives pattern id n. -/
def Config.testPattern (n : Byte) : Pattern := { count := n, on := 10, period := 20 }

/-- The configuration that `State.reset` carries: the defaults of R6, and for the parameters that R6 leaves OPEN the values
of the test configuration of 95_test_vectors.md section 0. These are a DESIGN CHOICE (log entry 2), unsafe; no statement
rests on them. -/
def Config.resetParams : Params where
  rate := 100
  filter := 32768
  tempCoef := 32768
  ks := 16384
  kt := 8192
  invL := false
  invR := true
  sdcDec := 10
  blendLo := 10
  blendHi := 20
  tempOff := 60
  tempWarn := 50
  batDead := 3300
  batLvl1 := 3500
  batLvl2 := 3600
  stopSpeed := 20
  backSpeed := 50
  dbEn := 50
  dbInact := 50
  inactN := 3
  patA := Config.testPattern 1
  patB := Config.testPattern 2
  patC := Config.testPattern 3
  patD := Config.testPattern 4
  patE := Config.testPattern 5
  patF := Config.testPattern 6
  patG := Config.testPattern 7
  patH := Config.testPattern 8
  patT := Config.testPattern 9
  fbDiv := 2
  tickPeriod := 1
  calEn := true
  tapMax := 3
  tapWindow := 10
  longHold := 5
  calIdle := 8
  testPort := true
  legal := by decide

/-- The values the input ports read by SAMPLE hold (10_state.md R44). -/
structure Sample where
  cmdSteer : Half
  cmdSpeed : Half
  spdL : Half
  spdR : Half
  temp : Half
  bat : Half
  faultL : Byte
  faultR : Byte
  analogTo : BitVec 1
  serialTo : BitVec 1
  generalTo : BitVec 1
  enReq : BitVec 1
  dirRev : BitVec 1
  button : BitVec 1
  thrMax : BitVec 1
  calDone : BitVec 1
deriving DecidableEq, Repr, Inhabited

/-- What the environment delivers between two steps (20_memory.md R69): `rst_i`, the strobe `tick_i`, and a command on
`cmd_i` when `cmd_valid_i` is up. Any of them may come together, or none. -/
structure Event where
  rst : Bool
  tick : Bool
  cmd : Option Word
deriving DecidableEq, Repr, Inhabited

/-- The `n`-th free draw, where it is of port values: SAMPLE latches any value of each port's range (20_memory.md R66). -/
opaque Config.freeSample : Nat → Sample

/-- The `n`-th free draw, where it is of an event: the environment chooses the order of events (20_memory.md R69). -/
opaque Config.freeEvent : Nat → Event

end Sys2Proof
end

