-- ==== Sys2Proof/Machine/State.lean ====
section
/-! DEFINITION. The state of the block (10_state.md R20, R21, R43) as plain data, with the environment's pending inputs,
and the two ways a step could stop, of which this hardware uses neither. -/

namespace Sys2Proof.Machine

/-- The register file of R21, each register as the bits of its own width (R13). -/
@[ext]
structure Regs where
  /-- `CMD_STEER`: i16. -/
  cmdSteer : BitVec 16
  /-- `CMD_SPEED`: i16. -/
  cmdSpeed : BitVec 16
  /-- `RS_STEER`: i16. -/
  rsSteer : BitVec 16
  /-- `RS_SPEED`: i16. -/
  rsSpeed : BitVec 16
  /-- `ACC_STEER`: i32. -/
  accSteer : BitVec 32
  /-- `ACC_SPEED`: i32. -/
  accSpeed : BitVec 32
  /-- `ACC_TEMP`: i32. -/
  accTemp : BitVec 32
  /-- `STEER`: i32. -/
  steer : BitVec 32
  /-- `SPEED`: i32. -/
  speed : BitVec 32
  /-- `MOT_L`: i16. -/
  motL : BitVec 16
  /-- `MOT_R`: i16. -/
  motR : BitVec 16
  /-- `OUT_L`: i16. -/
  outL : BitVec 16
  /-- `OUT_R`: i16. -/
  outR : BitVec 16
  /-- `SDC`: u8 (0..100). -/
  sdc : BitVec 8
  /-- `SPD_L`: i16. -/
  spdL : BitVec 16
  /-- `SPD_R`: i16. -/
  spdR : BitVec 16
  /-- `SPEED_AVG`: i16. -/
  speedAvg : BitVec 16
  /-- `SPEED_AVG_ABS`: u16 (0..32768). -/
  speedAvgAbs : BitVec 16
  /-- `SPEED_BLEND`: u16 (0..32768). -/
  speedBlend : BitVec 16
  /-- `TEMP_RAW`: i16. -/
  tempRaw : BitVec 16
  /-- `TEMP_FILT`: i32. -/
  tempFilt : BitVec 32
  /-- `BAT`: i16. -/
  bat : BitVec 16
  /-- `FAULT_L`: u8. -/
  faultL : BitVec 8
  /-- `FAULT_R`: u8. -/
  faultR : BitVec 8
  /-- `FLAGS_IN`: u16 (bits 15:8 zero). -/
  flagsIn : BitVec 16
  /-- `ENABLE`: u1. -/
  enable : BitVec 1
  /-- `BACKWARD`: u1. -/
  backward : BitVec 1
  /-- `POWEROFF`: u1. -/
  poweroff : BitVec 1
  /-- `CAUSE`: u4 (0..11). -/
  cause : BitVec 4
  /-- `ALERT`: u32 (rule R39). -/
  alert : BitVec 32
  /-- `INACT_CNT`: u32. -/
  inactCnt : BitVec 32
  /-- `TICK_CNT`: u32. -/
  tickCnt : BitVec 32
  /-- `FB_STROBE`: u1. -/
  fbStrobe : BitVec 1
  /-- `PON_STATE`: u3 (0..4). -/
  ponState : BitVec 3
  /-- `PON_TIMER`: u16. -/
  ponTimer : BitVec 16
  /-- `PON_TAPS`: u8 (0..2). -/
  ponTaps : BitVec 8
  /-- `PON_PRESS`: u16. -/
  ponPress : BitVec 16
  /-- `ERR_CAUSE`: u4 (0..8). -/
  errCause : BitVec 4
  /-- `ERR_WORD`: u32. -/
  errWord : BitVec 32
deriving DecidableEq, Repr

/-- The machine. The spec's state is `regs` and `rdata` (R20). The other fields are the model's own: the parameters of the
block instance (log entry 1), the events and port values the environment has in store, and the counter of free draws
(log entry 3). -/
@[ext]
structure State where
  /-- The 39 registers of R21. -/
  regs : Regs
  /-- The read-data latch `RDATA` (R43). -/
  rdata : Word
  /-- The parameters of the block instance; no step changes them (00_scope.md R5, R20). -/
  params : Params
  /-- The events the environment delivers next, in order; past its end every event is a free draw (20_memory.md R69). -/
  events : List Event
  /-- The port values the next SAMPLEs find, in order; past its end every value is a free draw (20_memory.md R66). -/
  samples : List Sample
  /-- How many free values have been drawn. -/
  draws : Nat
deriving DecidableEq, Repr

/-- The ways a step stops with a fault: none. The block has no traps and never stops stepping (60_exceptions.md R192,
R194, R196); a command error is a next state, and the halted block keeps its state (R200). -/
inductive Fault where
deriving DecidableEq, Repr

/-- The ways a step is refused. -/
inductive Refusal where
  /-- Raised by an arm of `exec` whose instruction has no meaning yet; safe. No arm of this model raises it. -/
  | notModelled (mnemonic : String)
deriving DecidableEq, Repr

/-- The register values right after reset: `SDC` = 100, every other register 0 (R50). -/
def Regs.reset : Regs where
  cmdSteer := 0#16
  cmdSpeed := 0#16
  rsSteer := 0#16
  rsSpeed := 0#16
  accSteer := 0#32
  accSpeed := 0#32
  accTemp := 0#32
  steer := 0#32
  speed := 0#32
  motL := 0#16
  motR := 0#16
  outL := 0#16
  outR := 0#16
  sdc := 100#8
  spdL := 0#16
  spdR := 0#16
  speedAvg := 0#16
  speedAvgAbs := 0#16
  speedBlend := 0#16
  tempRaw := 0#16
  tempFilt := 0#32
  bat := 0#16
  faultL := 0#8
  faultR := 0#8
  flagsIn := 0#16
  enable := 0#1
  backward := 0#1
  poweroff := 0#1
  cause := 0#4
  alert := 0#32
  inactCnt := 0#32
  tickCnt := 0#32
  fbStrobe := 0#1
  ponState := 0#3
  ponTimer := 0#16
  ponTaps := 0#8
  ponPress := 0#16
  errCause := 0#4
  errWord := 0#32

/-- A block instance with parameters `p` right after reset (R50, 70_reset_and_hazards.md R210, R212): nothing is in store
from the environment, so its first event is a free draw (log entry 3). -/
def State.resetWith (p : Params) : State where
  regs := Regs.reset
  rdata := 0#32
  params := p
  events := []
  samples := []
  draws := 0

/-- The machine right after reset. Its parameters have the defaults of 00_scope.md R6. DESIGN CHOICE (log entry 2), unsafe:
those that R6 leaves OPEN have the values of 95_test_vectors.md section 0. -/
def State.reset : State := State.resetWith Config.resetParams

end Sys2Proof.Machine
end

