-- ==== Sys2Proof/Machine/Arith.lean ====
section
/-! DEFINITION. The arithmetic primitives of 00_scope.md R10 over the unbounded integers (R9), and how a result is stored
in a register of a given width (R13). -/

namespace Sys2Proof.Machine

/-- `fdiv(a, b)`: ⌊a / b⌋ (R10). -/
def fdiv (a b : Int) : Int := Int.fdiv a b

/-- `tdiv(a, b)`: a / b rounded toward zero (R10). -/
def tdiv (a b : Int) : Int := Int.tdiv a b

/-- `asr(v, n)`: ⌊v / 2^n⌋ (R10). -/
def asr (v : Int) (n : Nat) : Int := fdiv v (2 ^ n)

/-- `v << n`: v × 2^n, exact (R10). -/
def shl (v : Int) (n : Nat) : Int := v * 2 ^ n

/-- `clamp(v, lo, hi)` (R10). -/
def clamp (v lo hi : Int) : Int := if v < lo then lo else if v > hi then hi else v

/-- `sat_s16(v)` (R10). -/
def satS16 (v : Int) : Int := clamp v (-32768) 32767

/-- `sat_s32(v)` (R10). -/
def satS32 (v : Int) : Int := clamp v (-2147483648) 2147483647

/-- `abs(v)`: |v| (R10). -/
def absInt (v : Int) : Int := if v < 0 then -v else v

/-- `inDB(v, d)`: −d ≤ v ≤ d (R17). -/
def inDB (v d : Int) : Bool := decide (-d ≤ v ∧ v ≤ d)

/-- `bool(c)`: 1 if the condition holds, else 0 (R10). -/
def boolBit (c : Bool) : BitVec 1 := BitVec.ofBool c

/-- A value stored in a register of width `w`: every value in the register's range is stored as itself (R13), and a rule
stores a value only after bringing it into range (R9). -/
def store (w : Nat) (v : Int) : BitVec w := BitVec.ofInt w v

end Sys2Proof.Machine
end

