-- ==== Sys2Proof/Machine/Flags.lean ====
section
/-! DEFINITION. The 1-bit inputs packed in `FLAGS_IN` (10_state.md R34), the alert word (R39), and the arbitration
conditions with their priority list (43_safety.md R140, R141). The block has no condition codes (10_state.md R47). -/

namespace Sys2Proof.Machine

/-- `FLAGS_IN` as SAMPLE packs it: `{0b00000000, cal_done, thr_max, button, dir_rev, en_req, general_to, serial_to,
analog_to}` (44_sequencer.md R160). -/
def packFlags (p : Sample) : BitVec 16 :=
  0#8 ++ p.calDone ++ p.thrMax ++ p.button ++ p.dirRev ++ p.enReq ++ p.generalTo ++ p.serialTo ++ p.analogTo

/-- A 1-bit field of `FLAGS_IN` (R34). -/
def flagBit (x : Regs) (i : Nat) : BitVec 1 := x.flagsIn.extractLsb' i 1

/-- `FLAGS_IN.ANALOG_TO`, bit 0 (R34). -/
def flagAnalogTo (x : Regs) : BitVec 1 := flagBit x 0
/-- `FLAGS_IN.SERIAL_TO`, bit 1 (R34). -/
def flagSerialTo (x : Regs) : BitVec 1 := flagBit x 1
/-- `FLAGS_IN.GENERAL_TO`, bit 2 (R34). -/
def flagGeneralTo (x : Regs) : BitVec 1 := flagBit x 2
/-- `FLAGS_IN.EN_REQ`, bit 3 (R34). -/
def flagEnReq (x : Regs) : BitVec 1 := flagBit x 3
/-- `FLAGS_IN.DIR_REV`, bit 4 (R34). -/
def flagDirRev (x : Regs) : BitVec 1 := flagBit x 4
/-- `FLAGS_IN.BUTTON`, bit 5 (R34). -/
def flagButton (x : Regs) : BitVec 1 := flagBit x 5
/-- `FLAGS_IN.THR_MAX`, bit 6 (R34). -/
def flagThrMax (x : Regs) : BitVec 1 := flagBit x 6
/-- `FLAGS_IN.CAL_DONE`, bit 7 (R34). -/
def flagCalDone (x : Regs) : BitVec 1 := flagBit x 7

/-- The audible patterns of R39. -/
inductive PatternId where
  | silence
  | a
  | b
  | c
  | d
  | e
  | f
  | g
  | h
  | transition
deriving DecidableEq, Repr

/-- The pattern id of `ALERT` bits 27:24 (R39). -/
def patternNumber : PatternId → BitVec 4
  | .silence => 0#4
  | .a => 1#4
  | .b => 2#4
  | .c => 3#4
  | .d => 4#4
  | .e => 5#4
  | .f => 6#4
  | .g => 7#4
  | .h => 8#4
  | .transition => 9#4

/-- The parameter triple of a pattern; silence has all fields 0 (R39). -/
def patternOf (p : Params) : PatternId → Pattern
  | .silence => { count := 0#8, on := 0#8, period := 0#8 }
  | .a => p.patA
  | .b => p.patB
  | .c => p.patC
  | .d => p.patD
  | .e => p.patE
  | .f => p.patF
  | .g => p.patG
  | .h => p.patH
  | .transition => p.patT

/-- `pat(id)`: the `ALERT` word `{0b0000, id, period, on, count}` (R39). -/
def alertWord (p : Params) (id : PatternId) : Word :=
  0#4 ++ patternNumber id ++ (patternOf p id).period ++ (patternOf p id).on ++ (patternOf p id).count

/-- `overTemp` (R140). -/
def overTemp (p : Params) (x : Regs) : Bool := decide (x.tempFilt.toInt ≥ p.tempOff)
/-- `batDead` (R140). -/
def batDead (p : Params) (x : Regs) : Bool := decide (x.bat.toInt < p.batDead)
/-- `lowSpeed` (R140). -/
def lowSpeed (p : Params) (x : Regs) : Bool := decide (x.speedAvgAbs.toNat < p.stopSpeed)
/-- `fault` (R140). -/
def motorFault (x : Regs) : Bool := decide (x.faultL ≠ 0#8 ∨ x.faultR ≠ 0#8)
/-- `analogTO` (R140). -/
def analogTimeout (x : Regs) : Bool := decide (flagAnalogTo x = 1#1)
/-- `serialTO` (R140). -/
def serialTimeout (x : Regs) : Bool := decide (flagSerialTo x = 1#1)
/-- `generalTO` (R140). -/
def generalTimeout (x : Regs) : Bool := decide (flagGeneralTo x = 1#1)
/-- `tempWarn` (R140). -/
def tempWarn (p : Params) (x : Regs) : Bool := decide (x.tempFilt.toInt ≥ p.tempWarn)
/-- `batLvl1` (R140). -/
def batLvl1 (p : Params) (x : Regs) : Bool := decide (x.bat.toInt < p.batLvl1)
/-- `batLvl2` (R140). -/
def batLvl2 (p : Params) (x : Regs) : Bool := decide (x.bat.toInt < p.batLvl2)
/-- `backMotion` (R140). -/
def backMotion (p : Params) (x : Regs) : Bool :=
  decide ((x.speedAvg.toInt < 0 ∧ x.speedAvgAbs.toNat > p.backSpeed) ∨ flagDirRev x = 1#1)

/-- The eleven rules of the priority list (R141). -/
inductive SafetyRule where
  | overTemp
  | batDead
  | motorFault
  | analogTimeout
  | serialTimeout
  | generalTimeout
  | tempWarn
  | batLvl1
  | batLvl2
  | backMotion
  | nominal
deriving DecidableEq, Repr

/-- The rule's number, which SAFETY writes to `CAUSE` (R141, 10_state.md R38). -/
def ruleNumber : SafetyRule → BitVec 4
  | .overTemp => 1#4
  | .batDead => 2#4
  | .motorFault => 3#4
  | .analogTimeout => 4#4
  | .serialTimeout => 5#4
  | .generalTimeout => 6#4
  | .tempWarn => 7#4
  | .batLvl1 => 8#4
  | .batLvl2 => 9#4
  | .backMotion => 10#4
  | .nominal => 11#4

/-- The pattern each rule requests (R141). -/
def rulePattern : SafetyRule → PatternId
  | .overTemp => .silence
  | .batDead => .silence
  | .motorFault => .a
  | .analogTimeout => .b
  | .serialTimeout => .c
  | .generalTimeout => .d
  | .tempWarn => .e
  | .batLvl1 => .f
  | .batLvl2 => .g
  | .backMotion => .h
  | .nominal => .silence

/-- The first true condition of the list wins (R141, R142). -/
def winningRule (p : Params) (x : Regs) : SafetyRule :=
  if overTemp p x then .overTemp
  else if batDead p x then .batDead
  else if motorFault x then .motorFault
  else if analogTimeout x then .analogTimeout
  else if serialTimeout x then .serialTimeout
  else if generalTimeout x then .generalTimeout
  else if tempWarn p x then .tempWarn
  else if batLvl1 p x then .batLvl1
  else if batLvl2 p x then .batLvl2
  else if backMotion p x then .backMotion
  else .nominal

end Sys2Proof.Machine
end

