-- ==== Sys2Proof/Machine/Operands.lean ====
section
/-! DEFINITION. The register map of 10_state.md R21 as functions: selector, width, signedness, access, legal range, and
the reading and writing of a register named by an operand. -/

namespace Sys2Proof.Machine

/-- The selector of a register (R21). -/
def regSel : Reg → Sel
  | .cmdSteer => 0x00#6
  | .cmdSpeed => 0x01#6
  | .rsSteer => 0x02#6
  | .rsSpeed => 0x03#6
  | .accSteer => 0x04#6
  | .accSpeed => 0x05#6
  | .accTemp => 0x06#6
  | .steer => 0x07#6
  | .speed => 0x08#6
  | .motL => 0x09#6
  | .motR => 0x0A#6
  | .outL => 0x0B#6
  | .outR => 0x0C#6
  | .sdc => 0x0D#6
  | .spdL => 0x0E#6
  | .spdR => 0x0F#6
  | .speedAvg => 0x10#6
  | .speedAvgAbs => 0x11#6
  | .speedBlend => 0x12#6
  | .tempRaw => 0x13#6
  | .tempFilt => 0x14#6
  | .bat => 0x15#6
  | .faultL => 0x16#6
  | .faultR => 0x17#6
  | .flagsIn => 0x18#6
  | .enable => 0x19#6
  | .backward => 0x1A#6
  | .poweroff => 0x1B#6
  | .cause => 0x1C#6
  | .alert => 0x1D#6
  | .inactCnt => 0x1E#6
  | .tickCnt => 0x1F#6
  | .fbStrobe => 0x20#6
  | .ponState => 0x21#6
  | .ponTimer => 0x22#6
  | .ponTaps => 0x23#6
  | .ponPress => 0x24#6
  | .errCause => 0x25#6
  | .errWord => 0x26#6

/-- The registers in the order of their selectors. -/
def allRegs : List Reg :=
  [.cmdSteer, .cmdSpeed, .rsSteer, .rsSpeed, .accSteer, .accSpeed, .accTemp, .steer, .speed, .motL, .motR, .outL, .outR,
   .sdc, .spdL, .spdR, .speedAvg, .speedAvgAbs, .speedBlend, .tempRaw, .tempFilt, .bat, .faultL, .faultR, .flagsIn, .enable,
   .backward, .poweroff, .cause, .alert, .inactCnt, .tickCnt, .fbStrobe, .ponState, .ponTimer, .ponTaps, .ponPress, .errCause, .errWord]

/-- The register at a selector; `none` at the reserved selectors 0x27 to 0x3F (R21, R24). -/
def regAt (sel : Sel) : Option Reg := allRegs[sel.toNat]?

/-- The width of a register's type (R21). -/
def regWidth : Reg → Nat
  | .cmdSteer => 16
  | .cmdSpeed => 16
  | .rsSteer => 16
  | .rsSpeed => 16
  | .accSteer => 32
  | .accSpeed => 32
  | .accTemp => 32
  | .steer => 32
  | .speed => 32
  | .motL => 16
  | .motR => 16
  | .outL => 16
  | .outR => 16
  | .sdc => 8
  | .spdL => 16
  | .spdR => 16
  | .speedAvg => 16
  | .speedAvgAbs => 16
  | .speedBlend => 16
  | .tempRaw => 16
  | .tempFilt => 32
  | .bat => 16
  | .faultL => 8
  | .faultR => 8
  | .flagsIn => 16
  | .enable => 1
  | .backward => 1
  | .poweroff => 1
  | .cause => 4
  | .alert => 32
  | .inactCnt => 32
  | .tickCnt => 32
  | .fbStrobe => 1
  | .ponState => 3
  | .ponTimer => 16
  | .ponTaps => 8
  | .ponPress => 16
  | .errCause => 4
  | .errWord => 32

/-- Whether a register's type is signed (R21). -/
def regSigned : Reg → Bool
  | .cmdSteer => true
  | .cmdSpeed => true
  | .rsSteer => true
  | .rsSpeed => true
  | .accSteer => true
  | .accSpeed => true
  | .accTemp => true
  | .steer => true
  | .speed => true
  | .motL => true
  | .motR => true
  | .outL => true
  | .outR => true
  | .sdc => false
  | .spdL => true
  | .spdR => true
  | .speedAvg => true
  | .speedAvgAbs => false
  | .speedBlend => false
  | .tempRaw => true
  | .tempFilt => true
  | .bat => true
  | .faultL => false
  | .faultR => false
  | .flagsIn => false
  | .enable => false
  | .backward => false
  | .poweroff => false
  | .cause => false
  | .alert => false
  | .inactCnt => false
  | .tickCnt => false
  | .fbStrobe => false
  | .ponState => false
  | .ponTimer => false
  | .ponTaps => false
  | .ponPress => false
  | .errCause => false
  | .errWord => false

/-- Whether a register is read-only for LDI and LDHI (R21). -/
def regReadOnly : Reg → Bool
  | .cmdSteer => false
  | .cmdSpeed => false
  | .rsSteer => false
  | .rsSpeed => false
  | .accSteer => false
  | .accSpeed => false
  | .accTemp => false
  | .steer => false
  | .speed => false
  | .motL => false
  | .motR => false
  | .outL => true
  | .outR => true
  | .sdc => false
  | .spdL => false
  | .spdR => false
  | .speedAvg => true
  | .speedAvgAbs => true
  | .speedBlend => true
  | .tempRaw => false
  | .tempFilt => true
  | .bat => false
  | .faultL => false
  | .faultR => false
  | .flagsIn => false
  | .enable => false
  | .backward => false
  | .poweroff => true
  | .cause => true
  | .alert => true
  | .inactCnt => false
  | .tickCnt => false
  | .fbStrobe => true
  | .ponState => false
  | .ponTimer => false
  | .ponTaps => false
  | .ponPress => false
  | .errCause => true
  | .errWord => true

/-- The least legal value of a register (R21). -/
def regLo : Reg → Int
  | .cmdSteer => -32768
  | .cmdSpeed => -32768
  | .rsSteer => -32768
  | .rsSpeed => -32768
  | .accSteer => -2147483648
  | .accSpeed => -2147483648
  | .accTemp => -2147483648
  | .steer => -2147483648
  | .speed => -2147483648
  | .motL => -32768
  | .motR => -32768
  | .outL => -32768
  | .outR => -32768
  | .sdc => 0
  | .spdL => -32768
  | .spdR => -32768
  | .speedAvg => -32768
  | .speedAvgAbs => 0
  | .speedBlend => 0
  | .tempRaw => -32768
  | .tempFilt => -2147483648
  | .bat => -32768
  | .faultL => 0
  | .faultR => 0
  | .flagsIn => 0
  | .enable => 0
  | .backward => 0
  | .poweroff => 0
  | .cause => 0
  | .alert => 0
  | .inactCnt => 0
  | .tickCnt => 0
  | .fbStrobe => 0
  | .ponState => 0
  | .ponTimer => 0
  | .ponTaps => 0
  | .ponPress => 0
  | .errCause => 0
  | .errWord => 0

/-- The greatest legal value of a register (R21; `FLAGS_IN` R34, `ALERT` R39). -/
def regHi : Reg → Int
  | .cmdSteer => 32767
  | .cmdSpeed => 32767
  | .rsSteer => 32767
  | .rsSpeed => 32767
  | .accSteer => 2147483647
  | .accSpeed => 2147483647
  | .accTemp => 2147483647
  | .steer => 2147483647
  | .speed => 2147483647
  | .motL => 32767
  | .motR => 32767
  | .outL => 32767
  | .outR => 32767
  | .sdc => 100
  | .spdL => 32767
  | .spdR => 32767
  | .speedAvg => 32767
  | .speedAvgAbs => 32768
  | .speedBlend => 32768
  | .tempRaw => 32767
  | .tempFilt => 2147483647
  | .bat => 32767
  | .faultL => 255
  | .faultR => 255
  | .flagsIn => 255
  | .enable => 1
  | .backward => 1
  | .poweroff => 1
  | .cause => 11
  | .alert => 268435455
  | .inactCnt => 4294967295
  | .tickCnt => 4294967295
  | .fbStrobe => 1
  | .ponState => 4
  | .ponTimer => 65535
  | .ponTaps => 2
  | .ponPress => 65535
  | .errCause => 8
  | .errWord => 4294967295

/-- `legal(NAME, v)`: v lies in the "type (legal)" range of R21 (45_register_access.md R181). -/
def regLegal (r : Reg) (v : Int) : Bool := decide (regLo r ≤ v ∧ v ≤ regHi r)

/-- `x[NAME]`: a register as an integer in its own range (00_scope.md R11, R13). -/
def regGet (x : Regs) : Reg → Int
  | .cmdSteer => x.cmdSteer.toInt
  | .cmdSpeed => x.cmdSpeed.toInt
  | .rsSteer => x.rsSteer.toInt
  | .rsSpeed => x.rsSpeed.toInt
  | .accSteer => x.accSteer.toInt
  | .accSpeed => x.accSpeed.toInt
  | .accTemp => x.accTemp.toInt
  | .steer => x.steer.toInt
  | .speed => x.speed.toInt
  | .motL => x.motL.toInt
  | .motR => x.motR.toInt
  | .outL => x.outL.toInt
  | .outR => x.outR.toInt
  | .sdc => x.sdc.toNat
  | .spdL => x.spdL.toInt
  | .spdR => x.spdR.toInt
  | .speedAvg => x.speedAvg.toInt
  | .speedAvgAbs => x.speedAvgAbs.toNat
  | .speedBlend => x.speedBlend.toNat
  | .tempRaw => x.tempRaw.toInt
  | .tempFilt => x.tempFilt.toInt
  | .bat => x.bat.toInt
  | .faultL => x.faultL.toNat
  | .faultR => x.faultR.toNat
  | .flagsIn => x.flagsIn.toNat
  | .enable => x.enable.toNat
  | .backward => x.backward.toNat
  | .poweroff => x.poweroff.toNat
  | .cause => x.cause.toNat
  | .alert => x.alert.toNat
  | .inactCnt => x.inactCnt.toNat
  | .tickCnt => x.tickCnt.toNat
  | .fbStrobe => x.fbStrobe.toNat
  | .ponState => x.ponState.toNat
  | .ponTimer => x.ponTimer.toNat
  | .ponTaps => x.ponTaps.toNat
  | .ponPress => x.ponPress.toNat
  | .errCause => x.errCause.toNat
  | .errWord => x.errWord.toNat

/-- `x[NAME] <- v` (R11). -/
def regSet (x : Regs) (v : Int) : Reg → Regs
  | .cmdSteer => { x with cmdSteer := store 16 v }
  | .cmdSpeed => { x with cmdSpeed := store 16 v }
  | .rsSteer => { x with rsSteer := store 16 v }
  | .rsSpeed => { x with rsSpeed := store 16 v }
  | .accSteer => { x with accSteer := store 32 v }
  | .accSpeed => { x with accSpeed := store 32 v }
  | .accTemp => { x with accTemp := store 32 v }
  | .steer => { x with steer := store 32 v }
  | .speed => { x with speed := store 32 v }
  | .motL => { x with motL := store 16 v }
  | .motR => { x with motR := store 16 v }
  | .outL => { x with outL := store 16 v }
  | .outR => { x with outR := store 16 v }
  | .sdc => { x with sdc := store 8 v }
  | .spdL => { x with spdL := store 16 v }
  | .spdR => { x with spdR := store 16 v }
  | .speedAvg => { x with speedAvg := store 16 v }
  | .speedAvgAbs => { x with speedAvgAbs := store 16 v }
  | .speedBlend => { x with speedBlend := store 16 v }
  | .tempRaw => { x with tempRaw := store 16 v }
  | .tempFilt => { x with tempFilt := store 32 v }
  | .bat => { x with bat := store 16 v }
  | .faultL => { x with faultL := store 8 v }
  | .faultR => { x with faultR := store 8 v }
  | .flagsIn => { x with flagsIn := store 16 v }
  | .enable => { x with enable := store 1 v }
  | .backward => { x with backward := store 1 v }
  | .poweroff => { x with poweroff := store 1 v }
  | .cause => { x with cause := store 4 v }
  | .alert => { x with alert := store 32 v }
  | .inactCnt => { x with inactCnt := store 32 v }
  | .tickCnt => { x with tickCnt := store 32 v }
  | .fbStrobe => { x with fbStrobe := store 1 v }
  | .ponState => { x with ponState := store 3 v }
  | .ponTimer => { x with ponTimer := store 16 v }
  | .ponTaps => { x with ponTaps := store 8 v }
  | .ponPress => { x with ponPress := store 16 v }
  | .errCause => { x with errCause := store 4 v }
  | .errWord => { x with errWord := store 32 v }

/-- `rd32(NAME)`: the register sign- or zero-extended to 32 bits by its type (R23). -/
def rd32 (x : Regs) (r : Reg) : Word := BitVec.ofInt 32 (regGet x r)

/-- LDI's value: the immediate extended by the signedness of the register's type (30_encoding.md R81). -/
def ldiValue (r : Reg) (imm : Half) : Int := if regSigned r then imm.toInt else imm.toNat

/-- LDHI's 32-bit pattern: the immediate above bits 15:0 of the register's old pattern (45_register_access.md R182). -/
def ldhiPattern (x : Regs) (r : Reg) (imm : Half) : Word := imm ++ (rd32 x r).extractLsb' 0 16

/-- LDHI's value: the new pattern read by the signedness of the register's type (R182). -/
def ldhiValue (x : Regs) (r : Reg) (imm : Half) : Int :=
  if regSigned r then (ldhiPattern x r imm).toInt else (ldhiPattern x r imm).toNat

end Sys2Proof.Machine
end

