-- ==== Sys2Proof/Machine/Ops.lean ====
section
/-! DEFINITION. The shared operations: a command error and its record (60_exceptions.md R190 to R194), the way a command
ends, the free draws of the environment (20_memory.md R66, R69), and the primitives several commands share. -/

namespace Sys2Proof.Machine

/-- The code `ERR_CAUSE` records (R190). -/
def errorCode : CmdError → BitVec 4
  | .illegalOpcode => 1#4
  | .reservedBits => 2#4
  | .badSelector => 3#4
  | .readOnly => 4#4
  | .notWide => 5#4
  | .halted => 6#4
  | .wrongPhase => 7#4
  | .illegalValue => 8#4

/-- The error record after `raise CmdError(code)` for the command word `w`: the first error is kept (R192). -/
def recordError (e : CmdError) (w : Word) (x : Regs) : Regs :=
  if x.errCause = 0#4 then { x with errCause := errorCode e, errWord := w } else x

/-- `raise CmdError(code)` for the command word `w`: the record and nothing else (R192, R194). This is all the exception
entry the block has (R196). -/
def raiseError (e : CmdError) (w : Word) (s : State) : State := { s with regs := recordError e w s.regs }

/-- The error record cleared; the closest thing to a handler exit (R184, R197). -/
def clearRecord (x : Regs) : Regs := { x with errCause := 0#4, errWord := 0#32 }

/-- The block is halted (00_scope.md R17, 60_exceptions.md R200). -/
def State.isHalted (s : State) : Bool := decide (s.regs.poweroff = 1#1)

/-- The phase is RUN (00_scope.md R17, 10_state.md R41). -/
def State.inRunPhase (s : State) : Bool := decide (s.regs.ponState = 4#3)

/-- How the command `i` ends: with its effect, or with its error recorded against its own word (R192). A command whose
reserved bits are 0 has exactly one word, so the failing word is `encode i` (log entry 7). -/
def finish (i : Instr) (s : State) (r : Except CmdError State) : Host.Outcome State Fault Refusal :=
  match r with
  | .ok t => .next t
  | .error e => .next (raiseError e (encode i) s)

/-- The HALTED check of every command but NOP and RD (R190, R200). -/
def unlessHalted (s : State) (r : Except CmdError State) : Except CmdError State :=
  if s.isHalted then .error .halted else r

/-- A command that only computes registers from registers and parameters. -/
def onRegs (f : Params → Regs → Regs) (s : State) : State := { s with regs := f s.params s.regs }

/-- How a stage command ends: HALTED, or its effect on the registers. -/
def stage (i : Instr) (f : Params → Regs → Regs) (s : State) : Host.Outcome State Fault Refusal :=
  finish i s (unlessHalted s (.ok (onRegs f s)))

/-- The port values the next SAMPLE finds: the first in store, or a free draw (20_memory.md R66). -/
def State.portValues (s : State) : Sample :=
  match s.samples with
  | [] => Config.freeSample s.draws
  | p :: _ => p

/-- The state once those port values have been taken. -/
def State.portsTaken (s : State) : State :=
  match s.samples with
  | [] => { s with draws := s.draws + 1 }
  | _ :: rest => { s with samples := rest }

/-- The event the environment delivers next: the first in store, or a free draw (20_memory.md R69). -/
def State.nextEvent (s : State) : Event :=
  match s.events with
  | [] => Config.freeEvent s.draws
  | e :: _ => e

/-- What is left of an event once the block has handled its first part: a command that arrived together with a tick strobe
comes next (20_memory.md R69, 70_reset_and_hazards.md R219); what arrives together with reset is discarded (R210). -/
def eventLeftover (e : Event) : List Event :=
  match e.rst, e.tick, e.cmd with
  | false, true, some w => [{ rst := false, tick := false, cmd := some w }]
  | _, _, _ => []

/-- The state once that event has been taken. -/
def State.eventTaken (s : State) : State :=
  match s.events with
  | [] => { s with events := eventLeftover s.nextEvent, draws := s.draws + 1 }
  | _ :: rest => { s with events := eventLeftover s.nextEvent ++ rest }

/-- `rateLimit(target, step, state)`: `state` moved toward `target` by at most `step` (40_filters.md R100). -/
def rateLimit (target : Int) (step : Nat) (state : Int) : Int :=
  state + clamp (target - state) (-step) step

/-- `lowPassFilter(input, coef, acc)` with K = `P_K` (40_filters.md R104). -/
def lowPassFilter (k : Nat) (input : Int) (coef : Nat) (acc : Int) : Int :=
  satS32 (acc + asr ((shl input k - acc) * coef) 16)

/-- `shape(acc)`: the integer part of an accumulator (40_filters.md R109). -/
def shape (k : Nat) (acc : Int) : Int := asr acc k

/-- One slow-down request: `max(0, SDC − P_SDC_DEC)` (43_safety.md R145). -/
def slowedDown (p : Params) (x : Regs) : BitVec 8 := store 8 (max 0 (x.sdc.toNat - p.sdcDec : Int))

end Sys2Proof.Machine
end

