-- ==== Sys2Proof/Machine/Access.lean ====
section
/-! DEFINITION. Register access and test-port commands: NOP, LDI, LDHI, RD, CLRERR (45_register_access.md R180 to R184). -/

namespace Sys2Proof.Machine

/-- NOP (R180): nothing changes, also while halted. -/
def execNop (s : State) : Host.Outcome State Fault Refusal := .next s

/-- LDI's own checks and effect on the register at `sel` (R181), after HALTED. -/
def loadImmediate (sel : Sel) (imm : Half) (s : State) : Except CmdError State :=
  match regAt sel with
  | none => .error .badSelector
  | some r =>
    if regReadOnly r then .error .readOnly
    else if regLegal r (ldiValue r imm) then .ok { s with regs := regSet s.regs (ldiValue r imm) r }
    else .error .illegalValue

/-- LDI (R181). -/
def execLdi (sel : Sel) (imm : Half) (s : State) : Host.Outcome State Fault Refusal :=
  finish (.ldi sel imm) s (unlessHalted s (loadImmediate sel imm s))

/-- LDHI's own checks and effect on the register at `sel` (R182), after HALTED. -/
def loadHigh (sel : Sel) (imm : Half) (s : State) : Except CmdError State :=
  match regAt sel with
  | none => .error .badSelector
  | some r =>
    if regReadOnly r then .error .readOnly
    else if regWidth r = 32 then .ok { s with regs := regSet s.regs (ldhiValue s.regs r imm) r }
    else .error .notWide

/-- LDHI (R182). -/
def execLdhi (sel : Sel) (imm : Half) (s : State) : Host.Outcome State Fault Refusal :=
  finish (.ldhi sel imm) s (unlessHalted s (loadHigh sel imm s))

/-- RD's check and effect (R183). -/
def readRegister (sel : Sel) (s : State) : Except CmdError State :=
  match regAt sel with
  | none => .error .badSelector
  | some r => .ok { s with rdata := rd32 s.regs r }

/-- RD (R183): exempt from HALTED. -/
def execRd (sel : Sel) (s : State) : Host.Outcome State Fault Refusal :=
  finish (.rd sel) s (readRegister sel s)

/-- CLRERR (R184). -/
def execClrerr (s : State) : Host.Outcome State Fault Refusal :=
  stage .clrerr (fun _ x => clearRecord x) s

end Sys2Proof.Machine
end

