-- ==== Sys2Proof/Machine/Arbiter.lean ====
section
/-! DEFINITION. Safety watchdog and fault arbitrator: SAFETY, SLOWDOWN, XITION, INACT (43_safety.md R140 to R154). -/

namespace Sys2Proof.Machine

/-- SLOWDOWN's effect (R145). -/
def slowDown (p : Params) (x : Regs) : Regs := { x with sdc := slowedDown p x }

/-- Rules 1 and 2: power off at low speed, else one slow-down request (R141). -/
def stopOrSlow (p : Params) (x : Regs) : Regs := if lowSpeed p x then { x with poweroff := 1#1 } else slowDown p x

/-- What the winning rule does besides `CAUSE` and `ALERT` (R141, R144). -/
def ruleAction (p : Params) (x : Regs) : SafetyRule → Regs
  | .overTemp => stopOrSlow p x
  | .batDead => stopOrSlow p x
  | .motorFault => { x with enable := 0#1 }
  | .analogTimeout => x
  | .serialTimeout => x
  | .generalTimeout => x
  | .tempWarn => x
  | .batLvl1 => x
  | .batLvl2 => x
  | .backMotion => { x with backward := 1#1 }
  | .nominal => { x with backward := 0#1 }

/-- SAFETY's effect (R141). -/
def arbitrate (p : Params) (x : Regs) : Regs :=
  { ruleAction p x (winningRule p x) with
    cause := ruleNumber (winningRule p x)
    alert := alertWord p (rulePattern (winningRule p x)) }

/-- The enable/disable interlock: both fault codes clear, both commands in the dead-band (R150). -/
def interlockHolds (p : Params) (x : Regs) : Bool :=
  decide (x.faultL = 0#8) && decide (x.faultR = 0#8)
    && inDB x.cmdSteer.toInt p.dbEn && inDB x.cmdSpeed.toInt p.dbEn

/-- XITION's effect (R150); `RS_STEER` and `RS_SPEED` are kept. -/
def transition (p : Params) (x : Regs) : Regs :=
  if flagEnReq x ≠ x.enable ∧ interlockHolds p x = true then
    { x with
      enable := flagEnReq x
      alert := alertWord p .transition
      accSteer := if flagEnReq x = 1#1 then 0#32 else x.accSteer
      accSpeed := if flagEnReq x = 1#1 then 0#32 else x.accSpeed }
  else x

/-- Both motor commands are in the inactivity dead-band (R153). -/
def inactiveNow (p : Params) (x : Regs) : Bool := inDB x.motL.toInt p.dbInact && inDB x.motR.toInt p.dbInact

/-- The inactivity count after this check, saturating at 2^32 − 1 (R153). -/
def inactiveCount (p : Params) (x : Regs) : Nat :=
  if inactiveNow p x then min (x.inactCnt.toNat + 1) 4294967295 else 0

/-- INACT's effect (R153); it never clears `POWEROFF`. -/
def checkInactivity (p : Params) (x : Regs) : Regs :=
  { x with
    inactCnt := store 32 (inactiveCount p x)
    poweroff := if inactiveCount p x > p.inactN then 1#1 else x.poweroff }

/-- SAFETY (R141). -/
def execSafety (s : State) : Host.Outcome State Fault Refusal := stage .safety arbitrate s

/-- SLOWDOWN (R145). -/
def execSlowdown (s : State) : Host.Outcome State Fault Refusal := stage .slowdown slowDown s

/-- XITION (R150). -/
def execXition (s : State) : Host.Outcome State Fault Refusal := stage .xition transition s

/-- INACT (R153). -/
def execInact (s : State) : Host.Outcome State Fault Refusal := stage .inact checkInactivity s

end Sys2Proof.Machine
end

