-- ==== Sys2Proof/Machine/Filters.lean ====
section
/-! DEFINITION. Rate limiter, low-pass filter and shaping shift: RLS, RLV, LPFS, LPFV, LPFT, SHPS, SHPV, SHPT
(40_filters.md R100 to R113). Each stage's effect on the registers is a function of its own, which TICK runs too. -/

namespace Sys2Proof.Machine

/-- RLS's effect (R102). -/
def rateLimitSteer (step : Half) (x : Regs) : Regs :=
  { x with rsSteer := store 16 (rateLimit x.cmdSteer.toInt step.toNat x.rsSteer.toInt) }

/-- RLV's effect (R103). -/
def rateLimitSpeed (step : Half) (x : Regs) : Regs :=
  { x with rsSpeed := store 16 (rateLimit x.cmdSpeed.toInt step.toNat x.rsSpeed.toInt) }

/-- LPFS's effect (R106). -/
def filterSteer (coef : Half) (p : Params) (x : Regs) : Regs :=
  { x with accSteer := store 32 (lowPassFilter p.k x.rsSteer.toInt coef.toNat x.accSteer.toInt) }

/-- LPFV's effect (R107). -/
def filterSpeed (coef : Half) (p : Params) (x : Regs) : Regs :=
  { x with accSpeed := store 32 (lowPassFilter p.k x.rsSpeed.toInt coef.toNat x.accSpeed.toInt) }

/-- LPFT's effect (R108). -/
def filterTemp (coef : Half) (p : Params) (x : Regs) : Regs :=
  { x with accTemp := store 32 (lowPassFilter p.k x.tempRaw.toInt coef.toNat x.accTemp.toInt) }

/-- SHPS's effect (R111). -/
def shapeSteer (p : Params) (x : Regs) : Regs := { x with steer := store 32 (shape p.k x.accSteer.toInt) }

/-- SHPV's effect (R112). -/
def shapeSpeed (p : Params) (x : Regs) : Regs := { x with speed := store 32 (shape p.k x.accSpeed.toInt) }

/-- SHPT's effect (R113). -/
def shapeTemp (p : Params) (x : Regs) : Regs := { x with tempFilt := store 32 (shape p.k x.accTemp.toInt) }

/-- RLS (R102). -/
def execRls (step : Half) (s : State) : Host.Outcome State Fault Refusal :=
  stage (.rls step) (fun _ x => rateLimitSteer step x) s

/-- RLV (R103). -/
def execRlv (step : Half) (s : State) : Host.Outcome State Fault Refusal :=
  stage (.rlv step) (fun _ x => rateLimitSpeed step x) s

/-- LPFS (R106). -/
def execLpfs (coef : Half) (s : State) : Host.Outcome State Fault Refusal :=
  stage (.lpfs coef) (filterSteer coef) s

/-- LPFV (R107). -/
def execLpfv (coef : Half) (s : State) : Host.Outcome State Fault Refusal :=
  stage (.lpfv coef) (filterSpeed coef) s

/-- LPFT (R108). -/
def execLpft (coef : Half) (s : State) : Host.Outcome State Fault Refusal :=
  stage (.lpft coef) (filterTemp coef) s

/-- SHPS (R111). -/
def execShps (s : State) : Host.Outcome State Fault Refusal := stage .shps shapeSteer s

/-- SHPV (R112). -/
def execShpv (s : State) : Host.Outcome State Fault Refusal := stage .shpv shapeSpeed s

/-- SHPT (R113). -/
def execShpt (s : State) : Host.Outcome State Fault Refusal := stage .shpt shapeTemp s

end Sys2Proof.Machine
end

