-- ==== Sys2Proof/Machine/Mixer.lean ====
section
/-! DEFINITION. Differential mixer and output assignment: MIX, OUT (42_mixer.md R130 to R135). -/

namespace Sys2Proof.Machine

/-- The mixer's speed term, rounded once (R130). -/
def speedTerm (p : Params) (speed : Int) : Int := asr (speed * p.ks) p.mixF

/-- The mixer's steer term, rounded once (R130). -/
def steerTerm (p : Params) (steer : Int) : Int := asr (steer * p.kt) p.mixF

/-- The left command of `mix(speed, steer)` (R130). -/
def mixLeft (p : Params) (speed steer : Int) : Int :=
  clamp (speedTerm p speed + steerTerm p steer) (-p.outMax) p.outMax

/-- The right command of `mix(speed, steer)` (R130). -/
def mixRight (p : Params) (speed steer : Int) : Int :=
  clamp (speedTerm p speed - steerTerm p steer) (-p.outMax) p.outMax

/-- MIX's effect (R131). -/
def mixCommands (p : Params) (x : Regs) : Regs :=
  { x with
    motL := store 16 (mixLeft p x.speed.toInt x.steer.toInt)
    motR := store 16 (mixRight p x.speed.toInt x.steer.toInt) }

/-- A motor command after the per-motor polarity inversion (R134). -/
def polarity (inv : Bool) (v : Int) : Int := satS16 (if inv then -v else v)

/-- OUT's effect (R134); `ENABLE` plays no part. -/
def assignOutputs (p : Params) (x : Regs) : Regs :=
  { x with
    outL := store 16 (polarity p.invL x.motL.toInt)
    outR := store 16 (polarity p.invR x.motR.toInt) }

/-- MIX (R131). -/
def execMix (s : State) : Host.Outcome State Fault Refusal := stage .mix mixCommands s

/-- OUT (R134). -/
def execOut (s : State) : Host.Outcome State Fault Refusal := stage .out assignOutputs s

end Sys2Proof.Machine
end

