-- ==== Sys2Proof/Machine/Shaping.lean ====
section
/-! DEFINITION. Speed blend, derating and electric brake: BLEND, DERATE, EBRAKE (41_shaping.md R120 to R125). -/

namespace Sys2Proof.Machine

/-- The signed average of the measured speeds, truncated toward zero (R120). -/
def averageSpeed (x : Regs) : Int := tdiv (x.spdL.toInt + x.spdR.toInt) 2

/-- The speed blend in Q15: a ramp between `P_BLEND_LO` and `P_BLEND_HI` (R120). -/
def blendOf (p : Params) (avg : Int) : Int :=
  fdiv (shl (clamp (absInt avg) p.blendLo p.blendHi - p.blendLo) 15) (p.blendHi - p.blendLo)

/-- BLEND's effect (R120). -/
def blendSpeed (p : Params) (x : Regs) : Regs :=
  { x with
    speedAvg := store 16 (averageSpeed x)
    speedAvgAbs := store 16 (absInt (averageSpeed x))
    speedBlend := store 16 (blendOf p (averageSpeed x)) }

/-- DERATE's effect (R122). -/
def derateSpeed (x : Regs) : Regs := { x with speed := store 32 (tdiv (x.speed.toInt * x.sdc.toNat) 100) }

/-- The command is opposite to the latched direction: a brake request (R124). -/
def brakeRequested (x : Regs) : Bool :=
  decide ((flagDirRev x = 0#1 ∧ x.speed.toInt < 0) ∨ (flagDirRev x = 1#1 ∧ x.speed.toInt > 0))

/-- The magnitude of the brake command, fading with the blend (R124). -/
def brakeMagnitude (x : Regs) : Int := asr (absInt x.speed.toInt * x.speedBlend.toNat) 15

/-- The brake command, opposing the travel, 0 at standstill (R124). -/
def brakeCommand (x : Regs) : Int :=
  if x.speedAvg.toInt > 0 then -brakeMagnitude x
  else if x.speedAvg.toInt < 0 then brakeMagnitude x
  else 0

/-- EBRAKE's effect (R124). -/
def brakeSpeed (x : Regs) : Regs :=
  if brakeRequested x then { x with speed := store 32 (satS32 (brakeCommand x)) } else x

/-- BLEND (R120). -/
def execBlend (s : State) : Host.Outcome State Fault Refusal := stage .blend blendSpeed s

/-- DERATE (R122). -/
def execDerate (s : State) : Host.Outcome State Fault Refusal := stage .derate (fun _ x => derateSpeed x) s

/-- EBRAKE (R124): in a block built without it the opcode is illegal, a check that comes after HALTED (30_encoding.md
R85). -/
def execEbrake (s : State) : Host.Outcome State Fault Refusal :=
  finish .ebrake s (unlessHalted s
    (if s.params.ebrakeEn then .ok (onRegs (fun _ x => brakeSpeed x) s) else .error .illegalOpcode))

end Sys2Proof.Machine
end

