-- ==== Sys2Proof/Machine/Sequencer.lean ====
section
/-! DEFINITION. Control-loop state sequencer: SAMPLE, FBSTROBE, TICK, PONSTEP (44_sequencer.md R160 to R172). -/

namespace Sys2Proof.Machine

/-- The sampled registers latched from the port values `v` (R160). -/
def latch (v : Sample) (x : Regs) : Regs :=
  { x with
    cmdSteer := v.cmdSteer
    cmdSpeed := v.cmdSpeed
    spdL := v.spdL
    spdR := v.spdR
    tempRaw := v.temp
    bat := v.bat
    faultL := v.faultL
    faultR := v.faultR
    flagsIn := packFlags v }

/-- SAMPLE's effect: one draw of every port, latched (R160, 20_memory.md R66). -/
def samplePorts (s : State) : State := { s.portsTaken with regs := latch s.portValues s.regs }

/-- FBSTROBE's effect: the strobe uses the new count (R163). -/
def strobeFeedback (p : Params) (x : Regs) : Regs :=
  { x with
    tickCnt := x.tickCnt + 1#32
    fbStrobe := boolBit (decide ((x.tickCnt + 1#32).toNat % p.fbDiv = 0)) }

/-- Micro-op 10 of TICK is absent in a block built without the electric brake (R166). -/
def brakeIfBuilt (p : Params) (x : Regs) : Regs := if p.ebrakeEn then brakeSpeed x else x

/-- Micro-ops 2 to 10 of TICK, in order: the shaping pipeline (R166). -/
def shapingStages (p : Params) (x : Regs) : Regs :=
  let x := blendSpeed p x
  let x := rateLimitSteer p.rate x
  let x := rateLimitSpeed p.rate x
  let x := filterSteer p.filter p x
  let x := filterSpeed p.filter p x
  let x := shapeSteer p x
  let x := shapeSpeed p x
  let x := derateSpeed x
  brakeIfBuilt p x

/-- Micro-ops 11 to 14 of TICK, in order: mixer, outputs, temperature filter (R166). -/
def outputStages (p : Params) (x : Regs) : Regs :=
  let x := mixCommands p x
  let x := assignOutputs p x
  let x := filterTemp p.tempCoef p x
  shapeTemp p x

/-- Micro-ops 15 to 18 of TICK, in order: arbitration, transition, inactivity, strobe (R166). A power-off set on the way
does not stop them. -/
def safetyStages (p : Params) (x : Regs) : Regs :=
  let x := arbitrate p x
  let x := transition p x
  let x := checkInactivity p x
  strobeFeedback p x

/-- TICK's effect: SAMPLE, then micro-ops 2 to 18, without the decoder and without errors (R166). -/
def runTick (s : State) : State :=
  onRegs (fun p x => safetyStages p (outputStages p (shapingStages p x))) (samplePorts s)

/-- A saturating counter step of the power-on sequencer (R170). -/
def inc16 (v : BitVec 16) : BitVec 16 := store 16 (min (v.toNat + 1) 65535 : Nat)

/-- The power-on sequencer entering `PON_STATE` = `n` with all its counters cleared (R170). -/
def ponEnter (n : BitVec 3) (x : Regs) : Regs :=
  { x with ponState := n, ponTimer := 0#16, ponTaps := 0#8, ponPress := 0#16 }

/-- `toRun()` (R170). -/
def toRun (x : Regs) : Regs := ponEnter 4#3 x

/-- WAIT_RELEASE (R170). -/
def ponWaitRelease (p : Params) (x : Regs) : Regs :=
  if flagButton x = 0#1 then (if p.calEn then ponEnter 1#3 x else toRun x) else x

/-- TAP_DETECT's CAL_WINDOW entry: two taps are counted (R170). -/
def toCalWindow (x : Regs) : Regs := { x with ponState := 2#3, ponTimer := 0#16, ponPress := 0#16 }

/-- TAP_DETECT with the throttle at maximum and `PON_TAPS` below 2: what the button does to the press and tap counts
(R170). So the count stays in its legal range 0 to 2 (10_state.md R21, R41). -/
def ponTapButton (p : Params) (x : Regs) : Regs :=
  if flagButton x = 1#1 then { x with ponPress := inc16 x.ponPress }
  else if x.ponPress.toNat > 0 then
    if x.ponPress.toNat ≤ p.tapMax then { x with ponTaps := x.ponTaps + 1#8, ponPress := 0#16 }
    else { toRun x with ponPress := 0#16 }
  else x

/-- TAP_DETECT's last test, made only while the state is still TAP_DETECT: two taps, else the window (R170). -/
def ponTapDecide (p : Params) (x : Regs) : Regs :=
  if x.ponState = 1#3 then
    if x.ponTaps = 2#8 then toCalWindow x
    else if x.ponTimer.toNat ≥ p.tapWindow then toRun x
    else x
  else x

/-- TAP_DETECT (R170). A count of 2 before the poll, which only a load leaves here, enters CAL_WINDOW whatever the button
does, as R170's corner case says; DESIGN CHOICE (log entry 8) where the poll ends a press, for which R170's pseudocode says
otherwise. -/
def ponTapDetect (p : Params) (x : Regs) : Regs :=
  let x := { x with ponTimer := inc16 x.ponTimer }
  if flagThrMax x = 0#1 then toRun x
  else if x.ponTaps = 2#8 then toCalWindow x
  else ponTapDecide p (ponTapButton p x)

/-- CAL_WINDOW (R170). -/
def ponCalWindow (p : Params) (x : Regs) : Regs :=
  if flagButton x = 1#1 then
    let x := { x with ponPress := inc16 x.ponPress, ponTimer := 0#16 }
    if x.ponPress.toNat ≥ p.longHold then { x with ponState := 3#3, ponTimer := 0#16, ponPress := 0#16 } else x
  else
    let x := { x with ponPress := 0#16, ponTimer := inc16 x.ponTimer }
    if x.ponTimer.toNat ≥ p.calIdle then toRun x else x

/-- CAL_ACTIVE (R170). -/
def ponCalActive (x : Regs) : Regs := if flagCalDone x = 1#1 then toRun x else x

/-- One poll of the power-on state machine on the sampled registers (R170). States 5 to 7 are never produced and have no
case (log entry 9). -/
def ponPoll (p : Params) (x : Regs) : Regs :=
  match x.ponState.toNat with
  | 0 => ponWaitRelease p x
  | 1 => ponTapDetect p x
  | 2 => ponCalWindow p x
  | 3 => ponCalActive x
  | _ => x

/-- PONSTEP's effect: SAMPLE as a micro-op, then the poll (R170). -/
def runPonstep (s : State) : State := onRegs ponPoll (samplePorts s)

/-- SAMPLE (R160). -/
def execSample (s : State) : Host.Outcome State Fault Refusal :=
  finish .sample s (unlessHalted s (.ok (samplePorts s)))

/-- FBSTROBE (R163). -/
def execFbstrobe (s : State) : Host.Outcome State Fault Refusal := stage .fbstrobe strobeFeedback s

/-- TICK (R166): WRONG_PHASE outside the run phase. -/
def execTick (s : State) : Host.Outcome State Fault Refusal :=
  finish .tick s (unlessHalted s (if s.inRunPhase then .ok (runTick s) else .error .wrongPhase))

/-- PONSTEP (R170): WRONG_PHASE in the run phase. -/
def execPonstep (s : State) : Host.Outcome State Fault Refusal :=
  finish .ponstep s (unlessHalted s (if s.inRunPhase then .error .wrongPhase else .ok (runPonstep s)))

end Sys2Proof.Machine
end

