-- ==== Sys2Proof/Machine/Dispatch.lean ====
section
/-! DEFINITION. One arm per command of spec/opcode_table.json, each one call of its meaning. -/

namespace Sys2Proof.Machine

def exec (i : Instr) (s : State) : Host.Outcome State Fault Refusal :=
  match i with
  | .nop => Sys2Proof.Machine.execNop s
  | .ldi sel imm => Sys2Proof.Machine.execLdi sel imm s
  | .ldhi sel imm => Sys2Proof.Machine.execLdhi sel imm s
  | .rd sel => Sys2Proof.Machine.execRd sel s
  | .clrerr => Sys2Proof.Machine.execClrerr s
  | .rls step => Sys2Proof.Machine.execRls step s
  | .rlv step => Sys2Proof.Machine.execRlv step s
  | .lpfs coef => Sys2Proof.Machine.execLpfs coef s
  | .lpfv coef => Sys2Proof.Machine.execLpfv coef s
  | .lpft coef => Sys2Proof.Machine.execLpft coef s
  | .shps => Sys2Proof.Machine.execShps s
  | .shpv => Sys2Proof.Machine.execShpv s
  | .shpt => Sys2Proof.Machine.execShpt s
  | .blend => Sys2Proof.Machine.execBlend s
  | .derate => Sys2Proof.Machine.execDerate s
  | .ebrake => Sys2Proof.Machine.execEbrake s
  | .mix => Sys2Proof.Machine.execMix s
  | .out => Sys2Proof.Machine.execOut s
  | .sample => Sys2Proof.Machine.execSample s
  | .safety => Sys2Proof.Machine.execSafety s
  | .slowdown => Sys2Proof.Machine.execSlowdown s
  | .xition => Sys2Proof.Machine.execXition s
  | .inact => Sys2Proof.Machine.execInact s
  | .fbstrobe => Sys2Proof.Machine.execFbstrobe s
  | .tick => Sys2Proof.Machine.execTick s
  | .ponstep => Sys2Proof.Machine.execPonstep s

end Sys2Proof.Machine
end

