-- ==== Sys2Proof/Machine/Fetch.lean ====
section
/-! DEFINITION. What the block does with the next event: reset, tick dispatch, test-port command (20_memory.md R69,
44_sequencer.md R167, 70_reset_and_hazards.md R210), and how a command word is placed on the command port. -/

namespace Sys2Proof.Machine

/-- What one step is made of. -/
inductive Action where
  /-- `rst_i`: take the reset values (R210). -/
  | reset
  /-- Execute a command: a test-port command that passed the checks of 30_encoding.md R85, or the TICK or PONSTEP that a
  tick strobe dispatches (R167). -/
  | run (i : Instr)
  /-- A test-port word that failed a check of R85. -/
  | reject (e : CmdError) (w : Word)
  /-- Nothing: no event, or a strobe while halted (R167, R200), or a command in a block without the test port (R44). -/
  | idle
deriving DecidableEq, Repr

/-- Tick dispatch (R167): nothing while halted, TICK in the run phase, else PONSTEP. -/
def tickAction (s : State) : Action :=
  if s.isHalted then .idle else if s.inRunPhase then .run .tick else .run .ponstep

/-- A word on the command port: decoded by R85, or ignored where the port does not exist (R44, log entry 6). -/
def commandAction (s : State) (w : Word) : Action :=
  if s.params.testPort then
    match decodeChecked s.isHalted s.params.ebrakeEn w with
    | .ok i => .run i
    | .error e => .reject e w
  else .idle

/-- Reset first, since what arrives with it is discarded (R210); then the tick, which is handled before a command that
arrives with it (R69); then the command. -/
def eventAction (s : State) (e : Event) : Action :=
  if e.rst then .reset
  else if e.tick then tickAction s
  else match e.cmd with
    | some w => commandAction s w
    | none => .idle

/-- The block after `rst_i`: every register and `RDATA` at its reset value; the parameters and what the environment still
has in store are kept (R50, R210, R212). -/
def resetBlock (s : State) : State := { s with regs := Regs.reset, rdata := 0#32 }

/-- The command word of `nbits` bits, zero above them (R75: a command is 32 bits). -/
def placedWord (nbits w : Nat) : Word := BitVec.ofNat 32 (w % 2 ^ nbits)

/-- A command placed on the command port as the next event (log entry 4). The parameters are fixed for the life of the
instance (00_scope.md R5), so a block built without the test port ignores it (log entry 6). -/
def placeCommand (s : State) (w : Word) : State :=
  { s with events := { rst := false, tick := false, cmd := some w } :: s.events }

end Sys2Proof.Machine
end

