-- ==== Sys2Proof/Machine/Step.lean ====
section
/-! DEFINITION. One step: the next event of the environment, handled whole (20_memory.md R64, R67 to R69). -/

namespace Sys2Proof.Machine

/-- One step takes the next event and does what it asks for. -/
def step (s : State) : Host.Outcome State Fault Refusal :=
  match eventAction s s.nextEvent with
  | .reset => .next (resetBlock s.eventTaken)
  | .run i => exec i s.eventTaken
  | .reject e w => .next (raiseError e w s.eventTaken)
  | .idle => .next s.eventTaken

/-- `s` with the instruction whose bits are `w` on the command port, so that the next step runs it (log entry 4). -/
def State.withFetchWord (s : State) (nbits w : Nat) : State := placeCommand s (placedWord nbits w)

end Sys2Proof.Machine
end

