-- ==== Sys2Proof/Machine/Asm.lean ====
section
/-! DEFINITION. The assembler: pseudo-instructions (30_encoding.md R91) and one line of assembler text (R90). -/

namespace Sys2Proof.Machine

/-- The commands a pseudo-instruction stands for (R91). -/
def expand : Pseudo → List Instr
  | .li32 r v => [.ldi (regSel r) (v.extractLsb' 0 16), .ldhi (regSel r) (v.extractLsb' 16 16)]
  | .clr r => [.ldi (regSel r) 0#16]
  | .setin m => [.ldi (regSel .flagsIn) (m.setWidth 16)]

/-- A register's name in assembler text (R21, R90). -/
def regName : Reg → String
  | .cmdSteer => "CMD_STEER"
  | .cmdSpeed => "CMD_SPEED"
  | .rsSteer => "RS_STEER"
  | .rsSpeed => "RS_SPEED"
  | .accSteer => "ACC_STEER"
  | .accSpeed => "ACC_SPEED"
  | .accTemp => "ACC_TEMP"
  | .steer => "STEER"
  | .speed => "SPEED"
  | .motL => "MOT_L"
  | .motR => "MOT_R"
  | .outL => "OUT_L"
  | .outR => "OUT_R"
  | .sdc => "SDC"
  | .spdL => "SPD_L"
  | .spdR => "SPD_R"
  | .speedAvg => "SPEED_AVG"
  | .speedAvgAbs => "SPEED_AVG_ABS"
  | .speedBlend => "SPEED_BLEND"
  | .tempRaw => "TEMP_RAW"
  | .tempFilt => "TEMP_FILT"
  | .bat => "BAT"
  | .faultL => "FAULT_L"
  | .faultR => "FAULT_R"
  | .flagsIn => "FLAGS_IN"
  | .enable => "ENABLE"
  | .backward => "BACKWARD"
  | .poweroff => "POWEROFF"
  | .cause => "CAUSE"
  | .alert => "ALERT"
  | .inactCnt => "INACT_CNT"
  | .tickCnt => "TICK_CNT"
  | .fbStrobe => "FB_STROBE"
  | .ponState => "PON_STATE"
  | .ponTimer => "PON_TIMER"
  | .ponTaps => "PON_TAPS"
  | .ponPress => "PON_PRESS"
  | .errCause => "ERR_CAUSE"
  | .errWord => "ERR_WORD"

/-- The register of a name. -/
def regNamed (t : List Char) : Option Reg := allRegs.find? (fun r => decide ((regName r).toList = t))

/-- White space between the parts of a line (log entry 11). -/
def isBlank (c : Char) : Bool := c = ' ' || c = '\t'

/-- Text without white space at its ends. -/
def trimBlanks (t : List Char) : List Char :=
  ((t.dropWhile isBlank).reverse.dropWhile isBlank).reverse

/-- Text without its comment: `;` starts one (R90). -/
def withoutComment (t : List Char) : List Char := t.takeWhile (· ≠ ';')

/-- The value of a decimal digit. -/
def decDigit (c : Char) : Option Nat := if '0' ≤ c ∧ c ≤ '9' then some (c.toNat - '0'.toNat) else none

/-- The value of a hexadecimal digit. -/
def hexDigit (c : Char) : Option Nat :=
  if '0' ≤ c ∧ c ≤ '9' then some (c.toNat - '0'.toNat)
  else if 'a' ≤ c ∧ c ≤ 'f' then some (c.toNat - 'a'.toNat + 10)
  else if 'A' ≤ c ∧ c ≤ 'F' then some (c.toNat - 'A'.toNat + 10)
  else none

/-- The number that the digits `t` continue from `acc`, in the given base. -/
def digitsFrom (base : Nat) (digit : Char → Option Nat) : List Char → Nat → Option Nat
  | [], acc => some acc
  | c :: rest, acc =>
    match digit c with
    | none => none
    | some d => digitsFrom base digit rest (acc * base + d)

/-- An unsigned number, decimal, or hexadecimal with `0x` (R90). -/
def parseNat : List Char → Option Nat
  | [] => none
  | '0' :: 'x' :: c :: rest => digitsFrom 16 hexDigit (c :: rest) 0
  | c :: rest => digitsFrom 10 decDigit (c :: rest) 0

/-- An immediate operand `#imm`, with a sign where it is negative (R90). -/
def parseImm : List Char → Option Int
  | '#' :: '-' :: t => (parseNat t).map (fun n => -(n : Int))
  | '#' :: t => (parseNat t).map (fun n => (n : Int))
  | _ => none

/-- An immediate within its bounds, encoded modulo 2^16 (R90). -/
def immWithin (lo hi : Int) (t : List Char) : Option Half :=
  match parseImm t with
  | none => none
  | some v => if lo ≤ v ∧ v ≤ hi then some (BitVec.ofInt 16 v) else none

/-- The bounds of LDI's written immediate follow the register's signedness (R90). -/
def ldiImm (r : Reg) (t : List Char) : Option Half :=
  if regSigned r then immWithin (-32768) 32767 t else immWithin 0 65535 t

/-- The commands of format N by mnemonic (R84). -/
def plainMnemonics : List (String × Instr) :=
  [("NOP", .nop), ("CLRERR", .clrerr), ("SHPS", .shps), ("SHPV", .shpv), ("SHPT", .shpt), ("BLEND", .blend),
   ("DERATE", .derate), ("EBRAKE", .ebrake), ("MIX", .mix), ("OUT", .out), ("SAMPLE", .sample), ("SAFETY", .safety),
   ("SLOWDOWN", .slowdown), ("XITION", .xition), ("INACT", .inact), ("FBSTROBE", .fbstrobe), ("TICK", .tick),
   ("PONSTEP", .ponstep)]

/-- A line without operands (R90). -/
def assemblePlain (m : List Char) : Option (List Instr) :=
  (plainMnemonics.find? (fun q => decide (q.1.toList = m))).map (fun q => [q.2])

/-- A line with one operand: format I, format R, `CLR` or `SETIN` (R90, R91). -/
def assembleOne (m a : List Char) : Option (List Instr) :=
  if m = "RLS".toList then (immWithin 0 65535 a).map (fun v => [.rls v])
  else if m = "RLV".toList then (immWithin 0 65535 a).map (fun v => [.rlv v])
  else if m = "LPFS".toList then (immWithin 0 65535 a).map (fun v => [.lpfs v])
  else if m = "LPFV".toList then (immWithin 0 65535 a).map (fun v => [.lpfv v])
  else if m = "LPFT".toList then (immWithin 0 65535 a).map (fun v => [.lpft v])
  else if m = "RD".toList then (regNamed a).map (fun r => [.rd (regSel r)])
  else if m = "CLR".toList then (regNamed a).map (fun r => expand (.clr r))
  else if m = "SETIN".toList then (immWithin 0 255 a).map (fun v => expand (.setin (v.setWidth 8)))
  else none

/-- `LI32 REG, #v` for a 32-bit register and any 32-bit v, written signed or unsigned (R91, log entry 11). -/
def assembleLi32 (r : Reg) (b : List Char) : Option (List Instr) :=
  match parseImm b with
  | none => none
  | some v =>
    if regWidth r = 32 ∧ -2147483648 ≤ v ∧ v ≤ 4294967295 then some (expand (.li32 r (BitVec.ofInt 32 v))) else none

/-- A line with two operands: format S or `LI32` (R90, R91). -/
def assembleTwo (m a b : List Char) : Option (List Instr) :=
  match regNamed a with
  | none => none
  | some r =>
    if m = "LDI".toList then (ldiImm r b).map (fun v => [.ldi (regSel r) v])
    else if m = "LDHI".toList then (immWithin 0 65535 b).map (fun v => [.ldhi (regSel r) v])
    else if m = "LI32".toList then assembleLi32 r b
    else none

/-- The commands of one line of assembler text; an empty line or a comment is no command; `none` for a line that is not
assembler text of R90. -/
def assembleLine (line : List Char) : Option (List Instr) :=
  let t := trimBlanks (withoutComment line)
  if t = [] then some []
  else
    let m := t.takeWhile (fun c => !isBlank c)
    let operands := trimBlanks (t.dropWhile (fun c => !isBlank c))
    if operands = [] then assemblePlain m
    else if ',' ∈ operands then
      assembleTwo m (trimBlanks (operands.takeWhile (· ≠ ',')))
        (trimBlanks ((operands.dropWhile (· ≠ ',')).drop 1))
    else assembleOne m operands

/-- The words of one line of assembler text. -/
def assembleWords (line : String) : Option (List Word) :=
  (assembleLine line.toList).map (fun is => is.map encode)

end Sys2Proof.Machine
end

