-- ==== Sys2Proof/Machine/Ports.lean ====
section
/-! DEFINITION. What collaborators see between steps: the output ports (10_state.md R45), the observation bus (R46), the
byte order of a serialised value (20_memory.md R62) and the encoder's view (44_sequencer.md R164). -/

namespace Sys2Proof.Machine

/-- The output ports of R45. -/
structure Outputs where
  motL : Half
  motR : Half
  motorEn : BitVec 1
  alert : Word
  backward : BitVec 1
  poweroff : BitVec 1
  fbStrobe : BitVec 1
  calActive : BitVec 1
  run : BitVec 1
  err : BitVec 1
  rdata : Word
deriving DecidableEq, Repr

/-- The output ports as functions of the registers (R45, R67). -/
def State.outputs (s : State) : Outputs where
  motL := s.regs.outL
  motR := s.regs.outR
  motorEn := s.regs.enable
  alert := s.regs.alert
  backward := s.regs.backward
  poweroff := s.regs.poweroff
  fbStrobe := s.regs.fbStrobe
  calActive := boolBit (decide (s.regs.ponState = 3#3))
  run := boolBit (decide (s.regs.ponState = 4#3))
  err := boolBit (decide (s.regs.errCause ≠ 0#4))
  rdata := s.rdata

/-- The observation bus: `rd32(NAME)` of any register, changing nothing (R46). -/
def State.observe (s : State) (r : Reg) : Word := rd32 s.regs r

/-- A 16-bit value as a collaborator serialises it: least significant byte first (20_memory.md R62). -/
def bytesOfHalf (v : Half) : List Byte := [v.extractLsb' 0 8, v.extractLsb' 8 8]

/-- A 32-bit value as a collaborator serialises it: least significant byte first (20_memory.md R62). -/
def bytesOfWord (v : Word) : List Byte :=
  [v.extractLsb' 0 8, v.extractLsb' 8 8, v.extractLsb' 16 8, v.extractLsb' 24 8]

/-- The values the feedback encoder reads over the observation bus (44_sequencer.md R164). -/
structure FeedbackValues where
  cmd1 : Half
  cmd2 : Half
  speedR : Half
  speedL : Half
  batVoltage : Half
  boardTemp : Word
deriving DecidableEq, Repr

/-- The frame values of R164, read after a tick that leaves `FB_STROBE` = 1; `none` on every other tick. -/
def State.feedback (s : State) : Option FeedbackValues :=
  if s.regs.fbStrobe = 1#1 then
    some {
      cmd1 := s.regs.cmdSteer
      cmd2 := s.regs.cmdSpeed
      speedR := s.regs.spdR
      speedL := s.regs.spdL
      batVoltage := s.regs.bat
      boardTemp := s.observe .tempFilt }
  else none

end Sys2Proof.Machine
end

