-- ==== Sys2Proof/Safety.lean ====
section
/-! DEFINITION. What a good state of the block is, in the terms the statements use. -/

namespace Sys2Proof.Machine

/-- The legal ranges and ties of 10_state.md R21, R34, R38, R39, R41, R42 and 41_shaping.md R120 that every step keeps,
whatever the test port does. -/
structure LegalState (s : State) : Prop where
  /-- `SDC` is a percentage (R30). -/
  sdc : s.regs.sdc.toNat ≤ 100
  /-- `SPEED_AVG_ABS` is the magnitude of `SPEED_AVG` (R31). -/
  avgAbs : s.regs.speedAvgAbs.toNat = s.regs.speedAvg.toInt.natAbs
  /-- `SPEED_BLEND` is a Q15 fraction of 1 (R31). -/
  blend : s.regs.speedBlend.toNat ≤ 32768
  /-- Bits 15:8 of `FLAGS_IN` read 0 (R34). -/
  flags : s.regs.flagsIn.toNat ≤ 255
  /-- `CAUSE` is a rule number, or 0 (R38). -/
  cause : s.regs.cause.toNat ≤ 11
  /-- `ALERT` is the word of one of the patterns (R39). -/
  alert : ∃ id, s.regs.alert = alertWord s.params id
  /-- `PON_STATE` is one of the five states (R41). -/
  ponState : s.regs.ponState.toNat ≤ 4
  /-- `PON_TAPS` counts at most two taps (R41). -/
  ponTaps : s.regs.ponTaps.toNat ≤ 2
  /-- `ERR_CAUSE` is a code of R190, or 0. -/
  errCause : s.regs.errCause.toNat ≤ 8
  /-- No recorded error means no recorded word (R42). -/
  errWord : s.regs.errCause = 0#4 → s.regs.errWord = 0#32

/-- The power-on registers of a run without LDI and LDHI (45_register_access.md R186): taps are counted only in
TAP_DETECT, at most one there, and two from CAL_WINDOW until RUN (44_sequencer.md R170). -/
structure PonInv (x : Regs) : Prop where
  waiting : x.ponState = 0#3 → x.ponTaps = 0#8 ∧ x.ponTimer = 0#16 ∧ x.ponPress = 0#16
  tapping : x.ponState = 1#3 → x.ponTaps.toNat ≤ 1
  calibrating : x.ponState = 2#3 ∨ x.ponState = 3#3 → x.ponTaps = 2#8
  running : x.ponState = 4#3 → x.ponTaps = 0#8 ∧ x.ponTimer = 0#16 ∧ x.ponPress = 0#16
  legal : x.ponState.toNat ≤ 4

/-- Commands that load a register from the test port (45_register_access.md R186). -/
def isLoad : Instr → Bool
  | .ldi _ _ => true
  | .ldhi _ _ => true
  | _ => false

/-- What a command error leaves: the state before it plus, if no error was recorded, the code and the word
(60_exceptions.md R192, R194). -/
def errorRecorded (s : State) (code : BitVec 4) (w : Word) : State :=
  { s with regs := if s.regs.errCause = 0#4 then { s.regs with errCause := code, errWord := w } else s.regs }

/-- The opcodes of 30_encoding.md R84. -/
def assignedOpcodes : List Nat :=
  [0x00, 0x01, 0x02, 0x03, 0x04, 0x10, 0x11, 0x12, 0x13, 0x14, 0x15, 0x16, 0x17, 0x18, 0x19, 0x1A, 0x1B, 0x1C, 0x20,
   0x21, 0x22, 0x23, 0x24, 0x28, 0x29, 0x2A]

/-- The bits of a word that must be 0 with an assigned opcode: all above the opcode but the format's fields (R76 to R79). -/
def reservedOfOpcode (op : Nat) : Word :=
  if op = 0x01 ∨ op = 0x02 then 0x0000C000#32
  else if op = 0x03 then 0xFFFFC000#32
  else if 0x10 ≤ op ∧ op ≤ 0x14 then 0x0000FF00#32
  else 0xFFFFFF00#32

/-- The registers after `toRun()` of 44_sequencer.md R170. -/
def ponRunning (x : Regs) : Regs := { x with ponState := 4#3, ponTimer := 0#16, ponTaps := 0#8, ponPress := 0#16 }

/-- Commands run one after another, as a test host issues them (70_reset_and_hazards.md R217): each from the state the one
before left, none if one of them stops. -/
def runCommands : List Instr → State → Option State
  | [], s => some s
  | i :: rest, s =>
    match exec i s with
    | .next t => runCommands rest t
    | .fault _ => none
    | .refused _ => none

/-- The stage commands of one TICK with the operands of 44_sequencer.md R166, in its order. -/
def tickCommands (p : Params) : List Instr :=
  [.sample, .blend, .rls p.rate, .rlv p.rate, .lpfs p.filter, .lpfv p.filter, .shps, .shpv, .derate]
    ++ (if p.ebrakeEn then [.ebrake] else [])
    ++ [.mix, .out, .lpft p.tempCoef, .shpt, .safety, .xition, .inact, .fbstrobe]

end Sys2Proof.Machine
end

