-- ==== Sys2Proof/Certificates/Slice0/Obligations.lean ====
section
/-! DEFINITION. The statements for the provers. A state is any state: a register's value, the parameters (every legal
set), the environment's events and port values are all quantified. `poweroff = 0#1` says the block is not halted. -/

open Sys2Proof Sys2Proof.Machine

/-! ### Encoding -/

/-- Every well-formed command decodes from its own word, in every block that may run it (30_encoding.md R84, R85). -/
def Obligations.DecodeOfEncodedCommand : Prop :=
  ∀ (i : Instr) (halted ebrakeEn : Bool), i.wellFormed = true →
    (halted = true → i = .nop ∨ ∃ sel, i = .rd sel) → (ebrakeEn = false → i ≠ .ebrake) →
    decodeChecked halted ebrakeEn (encode i) = .ok i ∧ decode (encode i) = .ok i

/-- R86: a word selects one command with legal fields, the only one with that word, or raises an error and is no
well-formed command's word. -/
def Obligations.WordIsOneCommandOrOneError : Prop :=
  (∀ (halted ebrakeEn : Bool) (w : Word),
    (∃ i, decodeChecked halted ebrakeEn w = .ok i ∧ i.wellFormed = true ∧ encode i = w ∧ ∀ j, encode j = w → j = i) ∨
    (∃ e, decodeChecked halted ebrakeEn w = .error e)) ∧
  ∀ (w : Word) (e : CmdError), decode w = .error e → ∀ i : Instr, i.wellFormed = true → encode i ≠ w

/-- R85, R193: the generic checks in their order, on the word's own bits. -/
def Obligations.DecodeChecksInOrder : Prop :=
  ∀ (halted ebrakeEn : Bool) (w : Word),
    if halted = true ∧ w.toNat % 256 ≠ 0x00 ∧ w.toNat % 256 ≠ 0x03 then
      decodeChecked halted ebrakeEn w = .error .halted
    else if w.toNat % 256 ∉ assignedOpcodes ∨ (w.toNat % 256 = 0x1A ∧ ebrakeEn = false) then
      decodeChecked halted ebrakeEn w = .error .illegalOpcode
    else if w &&& reservedOfOpcode (w.toNat % 256) ≠ 0#32 then
      decodeChecked halted ebrakeEn w = .error .reservedBits
    else if w.toNat % 256 ∈ [0x01, 0x02, 0x03] ∧ w.toNat / 256 % 64 ≥ 0x27 then
      decodeChecked halted ebrakeEn w = .error .badSelector
    else ∃ i, decodeChecked halted ebrakeEn w = .ok i ∧ encode i = w

/-- R92: the encoding examples, each as assembler text, word and command. -/
def Obligations.EncodingExamples : Prop :=
  (assembleWords "NOP" = some [0x00000000#32] ∧ decode 0x00000000#32 = .ok .nop) ∧
  (assembleWords "LDI CMD_SPEED, #1000" = some [0x03E80101#32] ∧ decode 0x03E80101#32 = .ok (.ldi 0x01#6 1000#16)) ∧
  (assembleWords "LDI ACC_STEER, #-1" = some [0xFFFF0401#32] ∧ decode 0xFFFF0401#32 = .ok (.ldi 0x04#6 0xFFFF#16)) ∧
  (assembleWords "LDHI ACC_SPEED, #0x0258" = some [0x02580502#32] ∧
    decode 0x02580502#32 = .ok (.ldhi 0x05#6 0x0258#16)) ∧
  (assembleWords "RD SPEED" = some [0x00000803#32] ∧ decode 0x00000803#32 = .ok (.rd 0x08#6)) ∧
  (assembleWords "CLRERR" = some [0x00000004#32] ∧ decode 0x00000004#32 = .ok .clrerr) ∧
  (assembleWords "RLV #100" = some [0x00640011#32] ∧ decode 0x00640011#32 = .ok (.rlv 100#16)) ∧
  (assembleWords "LPFV #32768" = some [0x80000013#32] ∧ decode 0x80000013#32 = .ok (.lpfv 32768#16)) ∧
  (assembleWords "SHPV" = some [0x00000016#32] ∧ decode 0x00000016#32 = .ok .shpv) ∧
  (assembleWords "MIX" = some [0x0000001B#32] ∧ decode 0x0000001B#32 = .ok .mix) ∧
  (assembleWords "TICK" = some [0x00000029#32] ∧ decode 0x00000029#32 = .ok .tick) ∧
  (assembleWords "PONSTEP" = some [0x0000002A#32] ∧ decode 0x0000002A#32 = .ok .ponstep)

/-- R91: the expansions, and the pattern LI32 leaves in a writable 32-bit register whatever it held. -/
def Obligations.PseudoInstructionsExpand : Prop :=
  (∀ (r : Reg) (v : Word),
    expand (.li32 r v) = [.ldi (regSel r) (v.extractLsb' 0 16), .ldhi (regSel r) (v.extractLsb' 16 16)]) ∧
  (∀ r : Reg, expand (.clr r) = [.ldi (regSel r) 0#16]) ∧
  (∀ m : Byte, expand (.setin m) = [.ldi 0x18#6 (0#8 ++ m)]) ∧
  ∀ (s : State) (v : Word), s.regs.poweroff = 0#1 → ∀ r ∈ [Reg.accSteer, .accSpeed, .accTemp, .steer, .speed, .inactCnt, .tickCnt],
    ∃ t, runCommands (expand (.li32 r v)) s = some t ∧ rd32 t.regs r = v ∧
      (∀ q, q ≠ r → regGet t.regs q = regGet s.regs q) ∧ t = { s with regs := t.regs }

/-! ### Steps and events -/

/-- R85, R69: a word on the command port that passes the generic checks is executed, once, on the state from which its
event has been taken. -/
def Obligations.StepRunsDecodedCommand : Prop :=
  ∀ (s : State) (w : Word) (i : Instr),
    s.nextEvent = { rst := false, tick := false, cmd := some w } → s.params.testPort = true →
    decodeChecked s.isHalted s.params.ebrakeEn w = .ok i →
    step s = exec i s.eventTaken ∧ i.wellFormed = true ∧ encode i = w ∧
    s.eventTaken = { s with events := s.eventTaken.events, draws := s.eventTaken.draws } ∧
    ∀ e rest, s.events = e :: rest → s.eventTaken = { s with events := rest }

/-- R85, R192: a word that fails a generic check records that check's code and the word, once, and does nothing else. -/
def Obligations.StepRecordsRejectedWord : Prop :=
  ∀ (s : State) (w : Word) (e : CmdError),
    s.nextEvent = { rst := false, tick := false, cmd := some w } → s.params.testPort = true →
    decodeChecked s.isHalted s.params.ebrakeEn w = .error e →
    step s = .next (errorRecorded s.eventTaken
      (match e with | .halted => 6#4 | .illegalOpcode => 1#4 | .reservedBits => 2#4 | .badSelector => 3#4 | _ => 0#4) w) ∧
    (e = .halted ∨ e = .illegalOpcode ∨ e = .reservedBits ∨ e = .badSelector)

/-- R167: a tick strobe does nothing while halted, runs TICK in the run phase and PONSTEP otherwise, raises no error and
does not change the error record. -/
def Obligations.TickStrobeDispatch : Prop :=
  ∀ s : State, s.nextEvent.rst = false → s.nextEvent.tick = true →
    (s.regs.poweroff = 1#1 → step s = .next s.eventTaken) ∧
    (s.regs.poweroff = 0#1 → s.regs.ponState = 4#3 → step s = exec .tick s.eventTaken) ∧
    (s.regs.poweroff = 0#1 → s.regs.ponState ≠ 4#3 → step s = exec .ponstep s.eventTaken) ∧
    s.eventTaken = { s with events := s.eventTaken.events, draws := s.eventTaken.draws } ∧
    ∃ t, step s = .next t ∧ t.regs.errCause = s.regs.errCause ∧ t.regs.errWord = s.regs.errWord ∧ t.rdata = s.rdata

/-- R210: reset takes the reset values of R50 whatever the state, also while halted, and discards a command or strobe that
comes with it; R212: it keeps the parameters. -/
def Obligations.ResetEventRestartsBlock : Prop :=
  ∀ s : State, s.nextEvent.rst = true →
    ∃ t, step s = .next t ∧ t.regs.sdc = 100#8 ∧ (∀ r, r ≠ .sdc → regGet t.regs r = 0) ∧ t.rdata = 0#32 ∧
      t.params = s.params ∧ t.samples = s.samples ∧ t.events = s.events.tail ∧
      t.outputs = {
        motL := 0#16, motR := 0#16, motorEn := 0#1, alert := 0#32, backward := 0#1, poweroff := 0#1,
        fbStrobe := 0#1, calActive := 0#1, run := 0#1, err := 0#1, rdata := 0#32 }

/-- R50: the reset values of every register and of RDATA, and the outputs they give, for every parameter set; the machine's
reset state is such a state. -/
def Obligations.ResetValues : Prop :=
  (∀ p : Params,
    (State.resetWith p).regs.sdc = 100#8 ∧ (∀ r, r ≠ .sdc → regGet (State.resetWith p).regs r = 0) ∧
    (State.resetWith p).rdata = 0#32 ∧ (State.resetWith p).params = p ∧
    (State.resetWith p).outputs = {
      motL := 0#16, motR := 0#16, motorEn := 0#1, alert := 0#32, backward := 0#1, poweroff := 0#1,
      fbStrobe := 0#1, calActive := 0#1, run := 0#1, err := 0#1, rdata := 0#32 }) ∧
  ∃ p, State.reset = State.resetWith p

/-- R69: the tick goes first. Two clauses are the model's reading (DEDUCED): the command that came with the tick is the very
next event (log entry 5), and a command event to a block without the test port does nothing (log entry 6). With no event
nothing happens. -/
def Obligations.TickBeforeCommandAndIdle : Prop :=
  (∀ (s : State) (w : Word), s.nextEvent = { rst := false, tick := true, cmd := some w } →
    ∃ t, step s = .next t ∧ t.events = { rst := false, tick := false, cmd := some w } :: s.events.tail) ∧
  (∀ (s : State) (w : Word), s.nextEvent = { rst := false, tick := false, cmd := some w } → s.params.testPort = false →
    step s = .next s.eventTaken) ∧
  ∀ s : State, s.nextEvent = { rst := false, tick := false, cmd := none } →
    step s = .next s.eventTaken ∧ s.eventTaken.regs = s.regs ∧ s.eventTaken.rdata = s.rdata

/-- R192, R212: no command and no event stops the block, and none changes a parameter. -/
def Obligations.BlockAlwaysGoesOn : Prop :=
  (∀ (i : Instr) (s : State), ∃ t, exec i s = .next t ∧ t.params = s.params ∧ t.events = s.events) ∧
  ∀ s : State, ∃ t, step s = .next t ∧ t.params = s.params

/-- Every step keeps the legal ranges and ties of `LegalState`. -/
def Obligations.StepKeepsInvariant : Prop := ∀ s t : State, LegalState s → step s = .next t → LegalState t

/-- `LegalState` holds right after reset, for every parameter set. -/
def Obligations.ResetHasInvariant : Prop := (∀ p : Params, LegalState (State.resetWith p)) ∧ LegalState State.reset

/-- R170, R186: a step that is no LDI or LDHI keeps the power-on registers as the sequence leaves them. -/
def Obligations.PowerOnInvariantWithoutLoads : Prop :=
  PonInv Regs.reset ∧
  ∀ s t : State, PonInv s.regs →
    (∀ w i, s.nextEvent.cmd = some w → decode w = .ok i → isLoad i = false) → step s = .next t → PonInv t.regs

/-- R171 (a), (b): RUN is left only by reset or a load; CAL_ACTIVE is entered only from CAL_WINDOW by a press that reaches
P_LONG_HOLD polls; CAL_WINDOW only from TAP_DETECT with the throttle at maximum and two taps. -/
def Obligations.PowerOnTransitionsWithoutLoads : Prop :=
  ∀ s t : State, (∀ w i, s.nextEvent.cmd = some w → decode w = .ok i → isLoad i = false) →
    s.nextEvent.rst = false → step s = .next t →
    (s.regs.ponState = 4#3 → t.regs.ponState = 4#3 ∧ t.regs.ponTimer = s.regs.ponTimer ∧ t.regs.ponTaps = s.regs.ponTaps
      ∧ t.regs.ponPress = s.regs.ponPress) ∧
    (s.regs.ponState ≠ 3#3 → t.regs.ponState = 3#3 →
      s.regs.ponState = 2#3 ∧ s.params.longHold ≤ s.regs.ponPress.toNat + 1 ∧ t.regs.flagsIn.toNat / 32 % 2 = 1) ∧
    (s.regs.ponState ≠ 2#3 → t.regs.ponState = 2#3 →
      s.regs.ponState = 1#3 ∧ t.regs.ponTaps = 2#8 ∧ t.regs.flagsIn.toNat / 64 % 2 = 1)

/-- R30, R51: but for reset and the loads, no step raises SDC. -/
def Obligations.DeratingNeverRises : Prop :=
  ∀ s t : State, (∀ w i, s.nextEvent.cmd = some w → decode w = .ok i → isLoad i = false) →
    s.nextEvent.rst = false → step s = .next t → t.regs.sdc.toNat ≤ s.regs.sdc.toNat

/-- R200: while halted a step other than reset keeps every register but the error record, POWEROFF among them; a tick
strobe changes no register and not RDATA; only a word with the opcode of RD may change RDATA. -/
def Obligations.HaltedBlockHolds : Prop :=
  ∀ s t : State, s.regs.poweroff = 1#1 → s.nextEvent.rst = false → step s = .next t →
    t.regs = { s.regs with errCause := t.regs.errCause, errWord := t.regs.errWord } ∧
    (s.nextEvent.tick = true → t.regs = s.regs ∧ t.rdata = s.rdata) ∧
    (∀ w, s.nextEvent.cmd = some w → w.toNat % 256 ≠ 0x03 → t.rdata = s.rdata)

/-- R151: ENABLE goes from 0 to 1 only by XITION, alone or in a TICK, with both fault codes 0 and both commands in the
dead-band, unless an LDI sets it. -/
def Obligations.EnableOnlyThroughInterlock : Prop :=
  ∀ (i : Instr) (s t : State), (∀ sel imm, i ≠ .ldi sel imm) → exec i s = .next t →
    s.regs.enable = 0#1 → t.regs.enable = 1#1 →
    (i = .xition ∨ i = .tick) ∧ t.regs.faultL = 0#8 ∧ t.regs.faultR = 0#8 ∧
    -s.params.dbEn ≤ t.regs.cmdSteer.toInt ∧ t.regs.cmdSteer.toInt ≤ s.params.dbEn ∧
    -s.params.dbEn ≤ t.regs.cmdSpeed.toInt ∧ t.regs.cmdSpeed.toInt ≤ s.params.dbEn

/-- R194: with P_TEST_PORT false, ERR_CAUSE stays 0 for ever, and RDATA never changes from its reset value. -/
def Obligations.NoErrorsWithoutTestPort : Prop :=
  ∀ (n : Nat) (s t : State), s.params.testPort = false → s.regs.errCause = 0#4 → s.rdata = 0#32 →
    core.run n s = .next t → t.regs.errCause = 0#4 ∧ t.rdata = 0#32

/-- R171 (e), R165: in the power-on phase a step without the test port leaves the outputs of the run phase as they are. -/
def Obligations.PowerOnKeepsOutputs : Prop :=
  ∀ s t : State, s.params.testPort = false → s.regs.ponState ≠ 4#3 → s.nextEvent.rst = false → step s = .next t →
    t.outputs.motL = s.outputs.motL ∧ t.outputs.motR = s.outputs.motR ∧ t.outputs.motorEn = s.outputs.motorEn ∧
    t.outputs.alert = s.outputs.alert ∧ t.outputs.backward = s.outputs.backward ∧
    t.outputs.poweroff = s.outputs.poweroff ∧ t.outputs.fbStrobe = s.outputs.fbStrobe

/-! ### Command errors -/

/-- R190, R200: while halted every command but NOP and RD records HALTED with its own word and does nothing else. -/
def Obligations.HaltedCommandsRecordHalted : Prop :=
  ∀ (i : Instr) (s : State), s.regs.poweroff = 1#1 → i ≠ .nop → (∀ sel, i ≠ .rd sel) →
    exec i s = .next (errorRecorded s 6#4 (encode i))

/-- R24: LDI, LDHI and RD with a reserved selector raise BAD_SELECTOR and change no other register. -/
def Obligations.ReservedSelectorsRaise : Prop :=
  ∀ (s : State) (sel : Sel) (imm : Half), 0x27 ≤ sel.toNat →
    (s.regs.poweroff = 0#1 → exec (.ldi sel imm) s = .next (errorRecorded s 3#4 (encode (.ldi sel imm)))) ∧
    (s.regs.poweroff = 0#1 → exec (.ldhi sel imm) s = .next (errorRecorded s 3#4 (encode (.ldhi sel imm)))) ∧
    exec (.rd sel) s = .next (errorRecorded s 3#4 (encode (.rd sel)))

/-- R181, R182: READ_ONLY comes first; then ILLEGAL_VALUE for LDI of a value outside the legal range, NOT_WIDE for LDHI of
a register narrower than 32 bits. -/
def Obligations.LoadsRefuseByName : Prop :=
  ∀ (s : State) (r : Reg) (imm : Half), s.regs.poweroff = 0#1 →
    (r ∈ [Reg.outL, .outR, .speedAvg, .speedAvgAbs, .speedBlend, .tempFilt, .poweroff, .cause, .alert, .fbStrobe,
        .errCause, .errWord] →
      exec (.ldi (regSel r) imm) s = .next (errorRecorded s 4#4 (encode (.ldi (regSel r) imm))) ∧
      exec (.ldhi (regSel r) imm) s = .next (errorRecorded s 4#4 (encode (.ldhi (regSel r) imm)))) ∧
    ((r = .sdc ∧ 100 < imm.toNat) ∨ ((r = .enable ∨ r = .backward) ∧ 1 < imm.toNat) ∨
        ((r = .faultL ∨ r = .faultR ∨ r = .flagsIn) ∧ 255 < imm.toNat) ∨ (r = .ponState ∧ 4 < imm.toNat) ∨
        (r = .ponTaps ∧ 2 < imm.toNat) →
      exec (.ldi (regSel r) imm) s = .next (errorRecorded s 8#4 (encode (.ldi (regSel r) imm)))) ∧
    (r ∈ [Reg.cmdSteer, .cmdSpeed, .rsSteer, .rsSpeed, .motL, .motR, .sdc, .spdL, .spdR, .tempRaw, .bat, .faultL, .faultR,
        .flagsIn, .enable, .backward, .ponState, .ponTimer, .ponTaps, .ponPress] →
      exec (.ldhi (regSel r) imm) s = .next (errorRecorded s 5#4 (encode (.ldhi (regSel r) imm))))

/-- R190: TICK outside the run phase and PONSTEP inside it record WRONG_PHASE; EBRAKE in a block built without it records
ILLEGAL_OPCODE. -/
def Obligations.PhaseAndBuildErrors : Prop :=
  ∀ s : State, s.regs.poweroff = 0#1 →
    (s.regs.ponState ≠ 4#3 → exec .tick s = .next (errorRecorded s 7#4 0x00000029#32)) ∧
    (s.regs.ponState = 4#3 → exec .ponstep s = .next (errorRecorded s 7#4 0x0000002A#32)) ∧
    (s.params.ebrakeEn = false → exec .ebrake s = .next (errorRecorded s 1#4 0x0000001A#32))

/-- R192: the first error is kept; only CLRERR and reset clear the record. -/
def Obligations.FirstErrorIsKept : Prop :=
  (∀ (i : Instr) (s t : State), s.regs.errCause ≠ 0#4 → i ≠ .clrerr → exec i s = .next t →
    t.regs.errCause = s.regs.errCause ∧ t.regs.errWord = s.regs.errWord) ∧
  ∀ s t : State, s.regs.errCause ≠ 0#4 → s.nextEvent.rst = false →
    (∀ w, s.nextEvent.cmd = some w → w ≠ 0x00000004#32) → step s = .next t →
    t.regs.errCause = s.regs.errCause ∧ t.regs.errWord = s.regs.errWord

/-! ### Register access -/

/-- R180: NOP changes nothing, also while halted. -/
def Obligations.NopChangesNothing : Prop := ∀ s : State, exec .nop s = .next s

/-- R181: LDI of a writable register and a legal value writes that value, extended by the register's signedness, and
nothing else. -/
def Obligations.LdiWritesLegalValue : Prop :=
  ∀ (s : State) (r : Reg) (imm : Half), s.regs.poweroff = 0#1 →
    r ∉ [Reg.outL, .outR, .speedAvg, .speedAvgAbs, .speedBlend, .tempFilt, .poweroff, .cause, .alert, .fbStrobe,
      .errCause, .errWord] →
    (r = .sdc → imm.toNat ≤ 100) → (r = .enable ∨ r = .backward → imm.toNat ≤ 1) →
    (r = .faultL ∨ r = .faultR ∨ r = .flagsIn → imm.toNat ≤ 255) → (r = .ponState → imm.toNat ≤ 4) →
    (r = .ponTaps → imm.toNat ≤ 2) →
    ∃ t, exec (.ldi (regSel r) imm) s = .next t ∧
      regGet t.regs r = (if r ∈ [Reg.cmdSteer, .cmdSpeed, .rsSteer, .rsSpeed, .accSteer, .accSpeed, .accTemp, .steer,
        .speed, .motL, .motR, .spdL, .spdR, .tempRaw, .bat] then imm.toInt else (imm.toNat : Int)) ∧
      (∀ q, q ≠ r → regGet t.regs q = regGet s.regs q) ∧ t = { s with regs := t.regs }

/-- R182: LDHI of a writable 32-bit register replaces bits 31:16 of its pattern, keeps bits 15:0, and changes nothing
else. -/
def Obligations.LdhiReplacesHighHalf : Prop :=
  ∀ (s : State) (imm : Half), s.regs.poweroff = 0#1 →
    ∀ r ∈ [Reg.accSteer, .accSpeed, .accTemp, .steer, .speed, .inactCnt, .tickCnt],
      ∃ t, exec (.ldhi (regSel r) imm) s = .next t ∧
        (rd32 t.regs r).toNat = imm.toNat * 65536 + (rd32 s.regs r).toNat % 65536 ∧
        (∀ q, q ≠ r → regGet t.regs q = regGet s.regs q) ∧ t = { s with regs := t.regs }

/-- R183, R23: RD of any register, also while halted, latches its value modulo 2^32 in RDATA and changes no register. -/
def Obligations.RdLatchesRegister : Prop :=
  ∀ (s : State) (r : Reg), ∃ t, exec (.rd (regSel r)) s = .next t ∧
    (t.rdata.toNat : Int) = regGet s.regs r % 4294967296 ∧ t = { s with rdata := t.rdata }

/-- R184: CLRERR clears the error record and nothing else. -/
def Obligations.ClrerrClearsRecord : Prop :=
  ∀ s : State, s.regs.poweroff = 0#1 →
    exec .clrerr s = .next { s with regs := { s.regs with errCause := 0#4, errWord := 0#32 } }

/-- R21, R24: the register map: each row's selector, width, signedness, access and legal range, and no register at the
reserved selectors. -/
def Obligations.RegisterMap : Prop :=
  allRegs.map (fun r => ((regSel r).toNat, regWidth r, regSigned r, regReadOnly r, regLo r, regHi r)) =
    [(0x00, 16, true, false, -32768, 32767), (0x01, 16, true, false, -32768, 32767),
     (0x02, 16, true, false, -32768, 32767), (0x03, 16, true, false, -32768, 32767),
     (0x04, 32, true, false, -2147483648, 2147483647), (0x05, 32, true, false, -2147483648, 2147483647),
     (0x06, 32, true, false, -2147483648, 2147483647), (0x07, 32, true, false, -2147483648, 2147483647),
     (0x08, 32, true, false, -2147483648, 2147483647), (0x09, 16, true, false, -32768, 32767),
     (0x0A, 16, true, false, -32768, 32767), (0x0B, 16, true, true, -32768, 32767),
     (0x0C, 16, true, true, -32768, 32767), (0x0D, 8, false, false, 0, 100),
     (0x0E, 16, true, false, -32768, 32767), (0x0F, 16, true, false, -32768, 32767),
     (0x10, 16, true, true, -32768, 32767), (0x11, 16, false, true, 0, 32768), (0x12, 16, false, true, 0, 32768),
     (0x13, 16, true, false, -32768, 32767), (0x14, 32, true, true, -2147483648, 2147483647),
     (0x15, 16, true, false, -32768, 32767), (0x16, 8, false, false, 0, 255), (0x17, 8, false, false, 0, 255),
     (0x18, 16, false, false, 0, 255), (0x19, 1, false, false, 0, 1), (0x1A, 1, false, false, 0, 1),
     (0x1B, 1, false, true, 0, 1), (0x1C, 4, false, true, 0, 11), (0x1D, 32, false, true, 0, 268435455),
     (0x1E, 32, false, false, 0, 4294967295), (0x1F, 32, false, false, 0, 4294967295), (0x20, 1, false, true, 0, 1),
     (0x21, 3, false, false, 0, 4), (0x22, 16, false, false, 0, 65535), (0x23, 8, false, false, 0, 2),
     (0x24, 16, false, false, 0, 65535), (0x25, 4, false, true, 0, 8), (0x26, 32, false, true, 0, 4294967295)] ∧
  (∀ r : Reg, regAt (regSel r) = some r) ∧ ∀ sel : Sel, 0x27 ≤ sel.toNat ↔ regAt sel = none

/-! ### Filters -/

/-- R102, R103: RLS and RLV move the state toward the command by at most the step and change nothing else. -/
def Obligations.RateLimitersMoveByStep : Prop :=
  ∀ (s : State) (step : Half), s.regs.poweroff = 0#1 →
    (∃ t, exec (.rls step) s = .next t ∧
      t.regs.rsSteer.toInt = s.regs.rsSteer.toInt
        + max (-(step.toNat : Int)) (min (step.toNat : Int) (s.regs.cmdSteer.toInt - s.regs.rsSteer.toInt)) ∧
      t = { s with regs := { s.regs with rsSteer := t.regs.rsSteer } }) ∧
    (∃ t, exec (.rlv step) s = .next t ∧
      t.regs.rsSpeed.toInt = s.regs.rsSpeed.toInt
        + max (-(step.toNat : Int)) (min (step.toNat : Int) (s.regs.cmdSpeed.toInt - s.regs.rsSpeed.toInt)) ∧
      t = { s with regs := { s.regs with rsSpeed := t.regs.rsSpeed } })

/-- R101: after n calls of RLS or of RLV with a constant target the state has moved by n steps or to the target, whichever
is nearer, and is at the target exactly when n steps cover the distance; the target and all else stay. -/
def Obligations.RateLimiterConverges : Prop :=
  ∀ (n : Nat) (s : State) (step : Half), s.regs.poweroff = 0#1 →
    (∃ t, runCommands (List.replicate n (.rls step)) s = some t ∧
      t.regs.rsSteer.toInt = s.regs.rsSteer.toInt
        + max (-(n * step.toNat : Int)) (min (n * step.toNat : Int) (s.regs.cmdSteer.toInt - s.regs.rsSteer.toInt)) ∧
      (t.regs.rsSteer = s.regs.cmdSteer ↔
        ((s.regs.cmdSteer.toInt - s.regs.rsSteer.toInt).natAbs ≤ n * step.toNat)) ∧
      t = { s with regs := { s.regs with rsSteer := t.regs.rsSteer } }) ∧
    ∃ t, runCommands (List.replicate n (.rlv step)) s = some t ∧
      t.regs.rsSpeed.toInt = s.regs.rsSpeed.toInt
        + max (-(n * step.toNat : Int)) (min (n * step.toNat : Int) (s.regs.cmdSpeed.toInt - s.regs.rsSpeed.toInt)) ∧
      (t.regs.rsSpeed = s.regs.cmdSpeed ↔
        ((s.regs.cmdSpeed.toInt - s.regs.rsSpeed.toInt).natAbs ≤ n * step.toNat)) ∧
      t = { s with regs := { s.regs with rsSpeed := t.regs.rsSpeed } }

/-- R106 to R108 with R105 (d): the three low-pass filters add the floored, exact increment, with no saturation, and change
nothing else. -/
def Obligations.LowPassFiltersAddIncrement : Prop :=
  ∀ (s : State) (coef : Half), s.regs.poweroff = 0#1 →
    (∃ t, exec (.lpfs coef) s = .next t ∧
      t.regs.accSteer.toInt = s.regs.accSteer.toInt
        + (s.regs.rsSteer.toInt * 2 ^ s.params.k - s.regs.accSteer.toInt) * coef.toNat / 65536 ∧
      t = { s with regs := { s.regs with accSteer := t.regs.accSteer } }) ∧
    (∃ t, exec (.lpfv coef) s = .next t ∧
      t.regs.accSpeed.toInt = s.regs.accSpeed.toInt
        + (s.regs.rsSpeed.toInt * 2 ^ s.params.k - s.regs.accSpeed.toInt) * coef.toNat / 65536 ∧
      t = { s with regs := { s.regs with accSpeed := t.regs.accSpeed } }) ∧
    (∃ t, exec (.lpft coef) s = .next t ∧
      t.regs.accTemp.toInt = s.regs.accTemp.toInt
        + (s.regs.tempRaw.toInt * 2 ^ s.params.k - s.regs.accTemp.toInt) * coef.toNat / 65536 ∧
      t = { s with regs := { s.regs with accTemp := t.regs.accTemp } })

/-- R105 (a), (b), (c): steady at the target, never past it, strictly below it from below, stalled when the increment
floors to 0, always moving from above. -/
def Obligations.LowPassNeverOvershoots : Prop :=
  ∀ (s t : State) (coef : Half), s.regs.poweroff = 0#1 → exec (.lpfv coef) s = .next t →
    let target := s.regs.rsSpeed.toInt * 2 ^ s.params.k
    let acc := s.regs.accSpeed.toInt
    let acc' := t.regs.accSpeed.toInt
    (acc = target → acc' = acc) ∧ (coef = 0#16 → acc' = acc) ∧
    (acc < target → acc ≤ acc' ∧ acc' < target) ∧
    (acc < target → (target - acc) * coef.toNat < 65536 → acc' = acc) ∧
    (target < acc → target ≤ acc' ∧ acc' ≤ acc) ∧
    (target < acc → coef ≠ 0#16 → acc' < acc)

/-- R111 to R113: the shaping shifts floor the accumulator by P_K bits, without narrowing, and change nothing else. -/
def Obligations.ShapingShiftsFloor : Prop :=
  ∀ s : State, s.regs.poweroff = 0#1 →
    (∃ t, exec .shps s = .next t ∧ t.regs.steer.toInt = s.regs.accSteer.toInt / 2 ^ s.params.k ∧
      t = { s with regs := { s.regs with steer := t.regs.steer } }) ∧
    (∃ t, exec .shpv s = .next t ∧ t.regs.speed.toInt = s.regs.accSpeed.toInt / 2 ^ s.params.k ∧
      t = { s with regs := { s.regs with speed := t.regs.speed } }) ∧
    (∃ t, exec .shpt s = .next t ∧ t.regs.tempFilt.toInt = s.regs.accTemp.toInt / 2 ^ s.params.k ∧
      t = { s with regs := { s.regs with tempFilt := t.regs.tempFilt } })

/-! ### Shaping -/

/-- R120: BLEND writes the truncated average, its magnitude and the Q15 ramp between the two thresholds, and nothing
else. -/
def Obligations.BlendAveragesAndRamps : Prop :=
  ∀ s : State, s.regs.poweroff = 0#1 → ∃ t, exec .blend s = .next t ∧
    t.regs.speedAvg.toInt = Int.tdiv (s.regs.spdL.toInt + s.regs.spdR.toInt) 2 ∧
    t.regs.speedAvgAbs.toNat = t.regs.speedAvg.toInt.natAbs ∧
    (t.regs.speedBlend.toNat : Int) =
      (max s.params.blendLo (min s.params.blendHi t.regs.speedAvgAbs.toNat) - s.params.blendLo) * 32768
        / (s.params.blendHi - s.params.blendLo) ∧
    t = { s with regs := { s.regs with
      speedAvg := t.regs.speedAvg, speedAvgAbs := t.regs.speedAvgAbs, speedBlend := t.regs.speedBlend } }

/-- R121: the blend is 0 at standstill, 32768 at and above P_BLEND_HI, and never falls as the magnitude grows. -/
def Obligations.BlendIsMonotone : Prop :=
  ∀ s s' t t' : State, s.regs.poweroff = 0#1 → s'.regs.poweroff = 0#1 → s'.params = s.params →
    exec .blend s = .next t → exec .blend s' = .next t' →
    (t.regs.speedAvgAbs.toNat ≤ t'.regs.speedAvgAbs.toNat → t.regs.speedBlend.toNat ≤ t'.regs.speedBlend.toNat) ∧
    (t.regs.speedAvgAbs = 0#16 → t.regs.speedBlend = 0#16) ∧
    (s.params.blendHi ≤ t.regs.speedAvgAbs.toNat → t.regs.speedBlend = 32768#16) ∧ t.regs.speedBlend.toNat ≤ 32768

/-- R122, R123: DERATE multiplies SPEED by SDC percent, truncating toward zero, so its magnitude does not grow and its sign
is kept or lost to 0; nothing else changes. `SDC` at most 100 is part of `LegalState`. -/
def Obligations.DerateScalesTowardZero : Prop :=
  ∀ s : State, s.regs.poweroff = 0#1 → s.regs.sdc.toNat ≤ 100 → ∃ t, exec .derate s = .next t ∧
    t.regs.speed.toInt = Int.tdiv (s.regs.speed.toInt * s.regs.sdc.toNat) 100 ∧
    t.regs.speed.toInt.natAbs ≤ s.regs.speed.toInt.natAbs ∧
    (0 ≤ s.regs.speed.toInt → 0 ≤ t.regs.speed.toInt) ∧ (s.regs.speed.toInt ≤ 0 → t.regs.speed.toInt ≤ 0) ∧
    t = { s with regs := { s.regs with speed := t.regs.speed } }

/-- R124: EBRAKE replaces a command opposite to the latched direction by the blended magnitude against the travel, 0 at
standstill, saturated; it passes any other command; nothing else changes. -/
def Obligations.EbrakeOpposesTravel : Prop :=
  ∀ s : State, s.regs.poweroff = 0#1 → s.params.ebrakeEn = true → ∃ t, exec .ebrake s = .next t ∧
    (let rev := s.regs.flagsIn.toNat / 16 % 2
     let v := s.regs.speed.toInt
     let m := (v.natAbs : Int) * s.regs.speedBlend.toNat / 32768
     (rev = 0 ∧ v < 0 ∨ rev = 1 ∧ 0 < v →
       (0 < s.regs.speedAvg.toInt → t.regs.speed.toInt = max (-2147483648) (-m)) ∧
       (s.regs.speedAvg.toInt < 0 → t.regs.speed.toInt = min 2147483647 m) ∧
       (s.regs.speedAvg.toInt = 0 → t.regs.speed.toInt = 0)) ∧
     (¬ (rev = 0 ∧ v < 0 ∨ rev = 1 ∧ 0 < v) → t.regs.speed = s.regs.speed)) ∧
    t = { s with regs := { s.regs with speed := t.regs.speed } }

/-- R125: no brake command in the direction of travel, none at standstill, none larger than the command it replaces. The
blend at most 1.0 is part of `LegalState`. -/
def Obligations.EbrakeNeverPushes : Prop :=
  ∀ s t : State, s.regs.poweroff = 0#1 → s.params.ebrakeEn = true → s.regs.speedBlend.toNat ≤ 32768 →
    exec .ebrake s = .next t →
    (s.regs.flagsIn.toNat / 16 % 2 = 0 ∧ s.regs.speed.toInt < 0 ∨
        s.regs.flagsIn.toNat / 16 % 2 = 1 ∧ 0 < s.regs.speed.toInt →
      (0 < s.regs.speedAvg.toInt → t.regs.speed.toInt ≤ 0) ∧
      (s.regs.speedAvg.toInt < 0 → 0 ≤ t.regs.speed.toInt) ∧
      (s.regs.speedAvg = 0#16 → t.regs.speed = 0#32)) ∧
    t.regs.speed.toInt.natAbs ≤ s.regs.speed.toInt.natAbs

/-! ### Mixer -/

/-- R131, R132, R133: MIX clamps the sum and the difference of the two floored terms to P_OUT_MAX; with no steer both
motors get the same command; nothing else changes. -/
def Obligations.MixClampsBothCommands : Prop :=
  ∀ s : State, s.regs.poweroff = 0#1 → ∃ t, exec .mix s = .next t ∧
    (let pS := s.regs.speed.toInt * s.params.ks / 2 ^ s.params.mixF
     let pT := s.regs.steer.toInt * s.params.kt / 2 ^ s.params.mixF
     t.regs.motL.toInt = max (-s.params.outMax) (min s.params.outMax (pS + pT)) ∧
     t.regs.motR.toInt = max (-s.params.outMax) (min s.params.outMax (pS - pT)) ∧
     (s.regs.steer = 0#32 → t.regs.motL = t.regs.motR)) ∧
    t.regs.motL.toInt.natAbs ≤ s.params.outMax ∧ t.regs.motR.toInt.natAbs ≤ s.params.outMax ∧
    t = { s with regs := { s.regs with motL := t.regs.motL, motR := t.regs.motR } }

/-- R134: OUT hands over the motor commands, negated where the polarity is inverted, saturated to i16, whatever ENABLE
holds; nothing else changes. -/
def Obligations.OutInvertsPolarity : Prop :=
  ∀ s : State, s.regs.poweroff = 0#1 → ∃ t, exec .out s = .next t ∧
    t.regs.outL.toInt = (if s.params.invL then min 32767 (-s.regs.motL.toInt) else s.regs.motL.toInt) ∧
    t.regs.outR.toInt = (if s.params.invR then min 32767 (-s.regs.motR.toInt) else s.regs.motR.toInt) ∧
    t = { s with regs := { s.regs with outL := t.regs.outL, outR := t.regs.outR } }

/-! ### Safety arbitration -/

/-- R140, R141: the first true condition of the list wins, alone; CAUSE is its number, ALERT its pattern, and only rules 1
to 3, 10 and 11 write anything else (R144: only 10 and 11 write BACKWARD). -/
def Obligations.SafetyFirstRuleWins : Prop :=
  ∀ s : State, s.regs.poweroff = 0#1 → ∃ t, exec .safety s = .next t ∧
    (let x := s.regs
     let p := s.params
     let flag := fun i => x.flagsIn.toNat / 2 ^ i % 2 = 1
     let rule : Nat :=
       if p.tempOff ≤ x.tempFilt.toInt then 1
       else if x.bat.toInt < p.batDead then 2
       else if x.faultL ≠ 0#8 ∨ x.faultR ≠ 0#8 then 3
       else if flag 0 then 4
       else if flag 1 then 5
       else if flag 2 then 6
       else if p.tempWarn ≤ x.tempFilt.toInt then 7
       else if x.bat.toInt < p.batLvl1 then 8
       else if x.bat.toInt < p.batLvl2 then 9
       else if (x.speedAvg.toInt < 0 ∧ p.backSpeed < x.speedAvgAbs.toNat) ∨ flag 4 then 10
       else 11
     let low := x.speedAvgAbs.toNat < p.stopSpeed
     t.regs.cause.toNat = rule ∧
     t.regs.poweroff = (if rule ≤ 2 ∧ low then 1#1 else x.poweroff) ∧
     t.regs.sdc.toNat = (if rule ≤ 2 ∧ ¬ low then x.sdc.toNat - p.sdcDec else x.sdc.toNat) ∧
     t.regs.enable = (if rule = 3 then 0#1 else x.enable) ∧
     t.regs.backward = (if rule = 10 then 1#1 else if rule = 11 then 0#1 else x.backward) ∧
     t.regs.alert = alertWord p
       (if rule = 3 then .a else if rule = 4 then .b else if rule = 5 then .c else if rule = 6 then .d
        else if rule = 7 then .e else if rule = 8 then .f else if rule = 9 then .g else if rule = 10 then .h
        else .silence)) ∧
    t = { s with regs := { s.regs with
      cause := t.regs.cause, alert := t.regs.alert, poweroff := t.regs.poweroff, sdc := t.regs.sdc,
      enable := t.regs.enable, backward := t.regs.backward } }

/-- R39: the fields of every pattern's ALERT word, and silence. -/
def Obligations.AlertWordFields : Prop :=
  ∀ p : Params, alertWord p .silence = 0#32 ∧
    (∀ q ∈ [(PatternId.a, 1, p.patA), (.b, 2, p.patB), (.c, 3, p.patC), (.d, 4, p.patD), (.e, 5, p.patE), (.f, 6, p.patF),
        (.g, 7, p.patG), (.h, 8, p.patH), (.transition, 9, p.patT)],
      (alertWord p q.1).toNat =
        q.2.1 * 16777216 + q.2.2.period.toNat * 65536 + q.2.2.on.toNat * 256 + q.2.2.count.toNat)

/-- R145, R146: k slow-down requests lower SDC by k times P_SDC_DEC, down to 0, and change nothing else. -/
def Obligations.SlowdownsLowerDerating : Prop :=
  ∀ s : State, s.regs.poweroff = 0#1 →
    (∃ t, exec .slowdown s = .next t ∧ t.regs.sdc.toNat = s.regs.sdc.toNat - s.params.sdcDec ∧
      t = { s with regs := { s.regs with sdc := t.regs.sdc } }) ∧
    ∀ k : Nat, ∃ t, runCommands (List.replicate k .slowdown) s = some t ∧
      t.regs.sdc.toNat = s.regs.sdc.toNat - k * s.params.sdcDec ∧
      t = { s with regs := { s.regs with sdc := t.regs.sdc } }

/-- R150: XITION makes the requested transition exactly when the request differs from ENABLE and the interlock holds; on
enable it clears the two command accumulators; otherwise nothing changes. -/
def Obligations.XitionInterlockedTransition : Prop :=
  ∀ s : State, s.regs.poweroff = 0#1 →
    (let x := s.regs
     let req := x.flagsIn.toNat / 8 % 2
     let holds := x.faultL = 0#8 ∧ x.faultR = 0#8 ∧
       (-s.params.dbEn ≤ x.cmdSteer.toInt ∧ x.cmdSteer.toInt ≤ s.params.dbEn) ∧
       (-s.params.dbEn ≤ x.cmdSpeed.toInt ∧ x.cmdSpeed.toInt ≤ s.params.dbEn)
     (req ≠ x.enable.toNat ∧ holds → exec .xition s = .next { s with regs := { x with
        enable := BitVec.ofNat 1 req
        alert := alertWord s.params .transition
        accSteer := if req = 1 then 0#32 else x.accSteer
        accSpeed := if req = 1 then 0#32 else x.accSpeed } }) ∧
     (¬ (req ≠ x.enable.toNat ∧ holds) → exec .xition s = .next s))

/-- R153: INACT counts a check with both motor commands in the dead-band, saturating, or restarts the count, and sets
POWEROFF when the count exceeds P_INACT_N; nothing else changes. -/
def Obligations.InactCountsAndPowersOff : Prop :=
  ∀ s : State, s.regs.poweroff = 0#1 → ∃ t, exec .inact s = .next t ∧
    t.regs.inactCnt.toNat =
      (if (-s.params.dbInact ≤ s.regs.motL.toInt ∧ s.regs.motL.toInt ≤ s.params.dbInact) ∧
          (-s.params.dbInact ≤ s.regs.motR.toInt ∧ s.regs.motR.toInt ≤ s.params.dbInact)
       then min (s.regs.inactCnt.toNat + 1) 4294967295 else 0) ∧
    t.regs.poweroff = (if s.params.inactN < t.regs.inactCnt.toNat then 1#1 else 0#1) ∧
    t = { s with regs := { s.regs with inactCnt := t.regs.inactCnt, poweroff := t.regs.poweroff } }

/-- R154, for the checks alone: from a count of 0 and with both motor commands in the dead-band, the k-th check leaves the
count k, POWEROFF is 0 up to k = P_INACT_N, and the next check sets it. -/
def Obligations.InactivityPowersOffExactly : Prop :=
  ∀ (s : State) (k : Nat), s.regs.poweroff = 0#1 → s.regs.inactCnt = 0#32 →
    (-s.params.dbInact ≤ s.regs.motL.toInt ∧ s.regs.motL.toInt ≤ s.params.dbInact) →
    (-s.params.dbInact ≤ s.regs.motR.toInt ∧ s.regs.motR.toInt ≤ s.params.dbInact) →
    k ≤ s.params.inactN + 1 →
    ∃ t, runCommands (List.replicate k .inact) s = some t ∧ t.regs.inactCnt.toNat = k ∧
      (t.regs.poweroff = 1#1 ↔ k = s.params.inactN + 1)

/-! ### Sequencer -/

/-- R160: SAMPLE latches each port, packs the eight 1-bit ports, takes one draw, and changes nothing else. -/
def Obligations.SampleLatchesPorts : Prop :=
  ∀ s : State, s.regs.poweroff = 0#1 → ∃ t, exec .sample s = .next t ∧
    (let v := s.portValues
     t.regs.flagsIn.toNat = v.analogTo.toNat + 2 * v.serialTo.toNat + 4 * v.generalTo.toNat + 8 * v.enReq.toNat
        + 16 * v.dirRev.toNat + 32 * v.button.toNat + 64 * v.thrMax.toNat + 128 * v.calDone.toNat ∧
     t = { s with
       regs := { s.regs with
         cmdSteer := v.cmdSteer, cmdSpeed := v.cmdSpeed, spdL := v.spdL, spdR := v.spdR, tempRaw := v.temp,
         bat := v.bat, faultL := v.faultL, faultR := v.faultR, flagsIn := t.regs.flagsIn }
       samples := s.samples.tail
       draws := if s.samples = [] then s.draws + 1 else s.draws }) ∧
    ∀ v rest, s.samples = v :: rest → s.portValues = v

/-- R163: FBSTROBE counts modulo 2^32 and strobes when P_FB_DIV divides the new count; nothing else changes. -/
def Obligations.FbstrobeDividesTicks : Prop :=
  ∀ s : State, s.regs.poweroff = 0#1 → ∃ t, exec .fbstrobe s = .next t ∧
    t.regs.tickCnt.toNat = (s.regs.tickCnt.toNat + 1) % 4294967296 ∧
    t.regs.fbStrobe = (if t.regs.tickCnt.toNat % s.params.fbDiv = 0 then 1#1 else 0#1) ∧
    t = { s with regs := { s.regs with tickCnt := t.regs.tickCnt, fbStrobe := t.regs.fbStrobe } }

/-- R166, R169: TICK completes in the run phase; it latches this tick's ports, moves the rate limiters by P_RATE from the
previous tick's state, counts the tick, and touches no power-on register, no error record and no RDATA. -/
def Obligations.TickCompletes : Prop :=
  ∀ s : State, s.regs.poweroff = 0#1 → s.regs.ponState = 4#3 → ∃ u t, exec .sample s = .next u ∧ exec .tick s = .next t ∧
    t.regs.cmdSteer = u.regs.cmdSteer ∧ t.regs.cmdSpeed = u.regs.cmdSpeed ∧ t.regs.spdL = u.regs.spdL ∧
    t.regs.spdR = u.regs.spdR ∧ t.regs.tempRaw = u.regs.tempRaw ∧ t.regs.bat = u.regs.bat ∧
    t.regs.faultL = u.regs.faultL ∧ t.regs.faultR = u.regs.faultR ∧ t.regs.flagsIn = u.regs.flagsIn ∧
    t.regs.rsSteer.toInt = s.regs.rsSteer.toInt + max (-(s.params.rate.toNat : Int))
      (min (s.params.rate.toNat : Int) (u.regs.cmdSteer.toInt - s.regs.rsSteer.toInt)) ∧
    t.regs.rsSpeed.toInt = s.regs.rsSpeed.toInt + max (-(s.params.rate.toNat : Int))
      (min (s.params.rate.toNat : Int) (u.regs.cmdSpeed.toInt - s.regs.rsSpeed.toInt)) ∧
    t.regs.motL.toInt.natAbs ≤ s.params.outMax ∧ t.regs.motR.toInt.natAbs ≤ s.params.outMax ∧
    t.regs.outL.toInt = (if s.params.invL then -t.regs.motL.toInt else t.regs.motL.toInt) ∧
    t.regs.outR.toInt = (if s.params.invR then -t.regs.motR.toInt else t.regs.motR.toInt) ∧
    1 ≤ t.regs.cause.toNat ∧ t.regs.cause.toNat ≤ 11 ∧
    t.regs.tickCnt.toNat = (s.regs.tickCnt.toNat + 1) % 4294967296 ∧
    t.regs.ponState = s.regs.ponState ∧ t.regs.ponTimer = s.regs.ponTimer ∧ t.regs.ponTaps = s.regs.ponTaps ∧
    t.regs.ponPress = s.regs.ponPress ∧ t.regs.errCause = s.regs.errCause ∧ t.regs.errWord = s.regs.errWord ∧
    t = { u with regs := t.regs }

/-- R166, R217: a TICK that does not power off leaves what its stage commands leave when a test host issues them one after
another in the order of R166 with the same operands. -/
def Obligations.TickIsItsStagesInOrder : Prop :=
  ∀ s t : State, s.regs.poweroff = 0#1 → s.regs.ponState = 4#3 → exec .tick s = .next t → t.regs.poweroff = 0#1 →
    runCommands (tickCommands s.params) s = some t

/-- R143: a tick that samples a battery below P_BAT_DEAD and motor speeds whose average is 0 powers off, whatever else
holds, and still counts itself. -/
def Obligations.DeadBatteryAtStandstillPowersOff : Prop :=
  ∀ s : State, s.regs.poweroff = 0#1 → s.regs.ponState = 4#3 → s.portValues.bat.toInt < s.params.batDead →
    Int.tdiv (s.portValues.spdL.toInt + s.portValues.spdR.toInt) 2 = 0 →
    ∃ t, exec .tick s = .next t ∧ t.regs.poweroff = 1#1 ∧
      t.regs.tickCnt.toNat = (s.regs.tickCnt.toNat + 1) % 4294967296

/-- R185, R216: a value loaded into a sampled register does not survive into a TICK or a PONSTEP. -/
def Obligations.SampledRegistersDoNotReachTick : Prop :=
  ∀ (s : State) (cmdSteer cmdSpeed spdL spdR temp bat flags : Half) (faultL faultR : Byte),
    let s' := { s with regs := { s.regs with
      cmdSteer := cmdSteer, cmdSpeed := cmdSpeed, spdL := spdL, spdR := spdR, tempRaw := temp, bat := bat,
      faultL := faultL, faultR := faultR, flagsIn := flags } }
    s.regs.poweroff = 0#1 →
    (s.regs.ponState = 4#3 → exec .tick s' = exec .tick s) ∧
    (s.regs.ponState ≠ 4#3 → exec .ponstep s' = exec .ponstep s)

/-- R170, states WAIT_RELEASE and CAL_ACTIVE: PONSTEP samples, then waits for the released button, or for the end of the
calibration; nothing else changes. -/
def Obligations.PonstepWaitsForReleaseAndCalibration : Prop :=
  ∀ s : State, s.regs.poweroff = 0#1 → ∃ u, exec .sample s = .next u ∧
    (s.regs.ponState = 0#3 → exec .ponstep s = .next { u with regs := (
      if s.portValues.button = 1#1 then u.regs
      else if s.params.calEn then { u.regs with ponState := 1#3, ponTimer := 0#16, ponTaps := 0#8, ponPress := 0#16 }
      else ponRunning u.regs) }) ∧
    (s.regs.ponState = 3#3 → exec .ponstep s = .next { u with regs := (
      if s.portValues.calDone = 1#1 then ponRunning u.regs else u.regs) })

/-- R170, state TAP_DETECT: the throttle test, then the press and tap counts, two taps, the window. A count of 2 before the
poll, which only a load leaves, enters CAL_WINDOW whatever the button does: R170's corner case, which the model follows
(log entry 8, DESIGN CHOICE) against R170's pseudocode where the poll also ends a press. `PON_TAPS` at most 2 is part of
`LegalState`. -/
def Obligations.PonstepDetectsTaps : Prop :=
  ∀ s : State, s.regs.poweroff = 0#1 → s.regs.ponState = 1#3 → s.regs.ponTaps.toNat ≤ 2 → ∃ u, exec .sample s = .next u ∧
    (let x := u.regs
     let timer := min (x.ponTimer.toNat + 1) 65535
     exec .ponstep s = .next { u with regs := (
       if s.portValues.thrMax = 0#1 then ponRunning x
       else if x.ponTaps = 2#8 then { x with ponState := 2#3, ponTimer := 0#16, ponPress := 0#16 }
       else if s.portValues.button = 0#1 ∧ x.ponPress ≠ 0#16 then
         if s.params.tapMax < x.ponPress.toNat then ponRunning x
         else if x.ponTaps = 1#8 then
           { x with ponState := 2#3, ponTimer := 0#16, ponTaps := 2#8, ponPress := 0#16 }
         else if s.params.tapWindow ≤ timer then ponRunning x
         else { x with ponTimer := BitVec.ofNat 16 timer, ponTaps := 1#8, ponPress := 0#16 }
       else if s.params.tapWindow ≤ timer then ponRunning x
       else if s.portValues.button = 1#1 then
         { x with
           ponTimer := BitVec.ofNat 16 timer, ponPress := BitVec.ofNat 16 (min (x.ponPress.toNat + 1) 65535) }
       else { x with ponTimer := BitVec.ofNat 16 timer }) })

/-- R170, state CAL_WINDOW: a press of P_LONG_HOLD polls enters calibration, P_CAL_IDLE released polls abandon it. -/
def Obligations.PonstepCalibrationWindow : Prop :=
  ∀ s : State, s.regs.poweroff = 0#1 → s.regs.ponState = 2#3 → ∃ u, exec .sample s = .next u ∧
    (let x := u.regs
     let press := min (x.ponPress.toNat + 1) 65535
     let timer := min (x.ponTimer.toNat + 1) 65535
     exec .ponstep s = .next { u with regs := (
       if s.portValues.button = 1#1 then
         if s.params.longHold ≤ press then { x with ponState := 3#3, ponTimer := 0#16, ponPress := 0#16 }
         else { x with ponTimer := 0#16, ponPress := BitVec.ofNat 16 press }
       else if s.params.calIdle ≤ timer then ponRunning x
       else { x with ponTimer := BitVec.ofNat 16 timer, ponPress := 0#16 }) })
end

