-- ==== Sys2Proof/Laws/Arith.lean ====
section
/-! SUPPORT. The arithmetic primitives in the library's terms, and when a stored value reads back as itself. -/

namespace Sys2Proof.Machine

theorem fdiv_eq_ediv (a : Int) {b : Int} (h : 0 ≤ b) : fdiv a b = a / b := Int.fdiv_eq_ediv_of_nonneg a h

theorem asr_eq_ediv (v : Int) (n : Nat) : asr v n = v / 2 ^ n := fdiv_eq_ediv v (by positivity)

theorem clamp_eq_max_min (v : Int) {lo hi : Int} (h : lo ≤ hi) : clamp v lo hi = max lo (min hi v) := by
  unfold clamp; split
  · omega
  · split <;> omega

theorem clamp_ge (v : Int) {lo hi : Int} (h : lo ≤ hi) : lo ≤ clamp v lo hi := by
  rw [clamp_eq_max_min v h]; omega

theorem clamp_le (v : Int) {lo hi : Int} (h : lo ≤ hi) : clamp v lo hi ≤ hi := by
  rw [clamp_eq_max_min v h]; omega

theorem satS16_eq (v : Int) : satS16 v = max (-32768) (min 32767 v) := clamp_eq_max_min v (by decide)

theorem satS32_eq (v : Int) : satS32 v = max (-2147483648) (min 2147483647 v) := clamp_eq_max_min v (by decide)

theorem satS16_of_mem {v : Int} (h₁ : -32768 ≤ v) (h₂ : v ≤ 32767) : satS16 v = v := by rw [satS16_eq]; omega

theorem satS32_of_mem {v : Int} (h₁ : -2147483648 ≤ v) (h₂ : v ≤ 2147483647) : satS32 v = v := by
  rw [satS32_eq]; omega

theorem absInt_eq_natAbs (v : Int) : absInt v = v.natAbs := by unfold absInt; split <;> omega

@[simp] theorem inDB_iff (v d : Int) : inDB v d = true ↔ -d ≤ v ∧ v ≤ d := by simp [inDB]

theorem toInt16_ge (b : BitVec 16) : -32768 ≤ b.toInt := by have := b.le_toInt; norm_num at this; exact this

theorem toInt16_le (b : BitVec 16) : b.toInt ≤ 32767 := by have := b.toInt_lt; norm_num at this; omega

theorem toInt32_ge (b : BitVec 32) : -2147483648 ≤ b.toInt := by have := b.le_toInt; norm_num at this; exact this

theorem toInt32_le (b : BitVec 32) : b.toInt ≤ 2147483647 := by have := b.toInt_lt; norm_num at this; omega

theorem toInt_store16 {v : Int} (h₁ : -32768 ≤ v) (h₂ : v ≤ 32767) : (store 16 v).toInt = v := by
  rw [store, BitVec.toInt_ofInt]; norm_num [Int.bmod]; omega

theorem toInt_store32 {v : Int} (h₁ : -2147483648 ≤ v) (h₂ : v ≤ 2147483647) : (store 32 v).toInt = v := by
  rw [store, BitVec.toInt_ofInt]; norm_num [Int.bmod]; omega

theorem toNat_store (w : Nat) {v : Int} (h₁ : 0 ≤ v) (h₂ : v < 2 ^ w) : (store w v).toNat = v.toNat := by
  rw [store, BitVec.toNat_ofInt]
  have : v % (2 ^ w : Nat) = v := Int.emod_eq_of_lt h₁ (by exact_mod_cast h₂)
  rw [this]

theorem store_toInt (w : Nat) (b : BitVec w) : store w b.toInt = b := by simp [store]

theorem store_toNat (w : Nat) (b : BitVec w) : store w b.toNat = b := by simp [store]

end Sys2Proof.Machine
end

