-- ==== Sys2Proof/Laws/Decode.lean ====
section
/-! SUPPORT. The fields of a word as arithmetic on its value, and the fields of the words the encoder writes. -/

namespace Sys2Proof

/-! ### Fields as numbers -/

theorem opcodeField_toNat (w : Word) : (opcodeField w).toNat = w.toNat % 256 := by simp [opcodeField]

theorem selField_toNat (w : Word) : (selField w).toNat = w.toNat / 256 % 64 := by
  simp [selField, Nat.shiftRight_eq_div_pow]

theorem immField_toNat (w : Word) : (immField w).toNat = w.toNat / 65536 := by
  have := w.isLt
  simp [immField, Nat.shiftRight_eq_div_pow]; omega

theorem toNat_append_add {m n : Nat} (a : BitVec m) (b : BitVec n) : (a ++ b).toNat = a.toNat * 2 ^ n + b.toNat := by
  rw [BitVec.toNat_append, ← Nat.shiftLeft_add_eq_or_of_lt b.isLt, Nat.shiftLeft_eq]

theorem encodeN_toNat (op : BitVec 8) : (encodeN op).toNat = op.toNat := by
  exact (toNat_append_add 0#24 op).trans (by simp)

theorem encodeI_toNat (op : BitVec 8) (imm : Half) : (encodeI op imm).toNat = imm.toNat * 65536 + op.toNat := by
  have h₁ := toNat_append_add (imm ++ 0#8) op
  have h₂ := toNat_append_add imm 0#8
  exact h₁.trans (by rw [h₂]; simp; omega)

theorem encodeS_toNat (op : BitVec 8) (sel : Sel) (imm : Half) :
    (encodeS op sel imm).toNat = imm.toNat * 65536 + sel.toNat * 256 + op.toNat := by
  have h₁ := toNat_append_add (imm ++ 0#2 ++ sel) op
  have h₂ := toNat_append_add (imm ++ 0#2) sel
  have h₃ := toNat_append_add imm 0#2
  exact h₁.trans (by rw [h₂, h₃]; simp; omega)

theorem encodeR_toNat (op : BitVec 8) (sel : Sel) : (encodeR op sel).toNat = sel.toNat * 256 + op.toNat := by
  have h₁ := toNat_append_add (0#18 ++ sel) op
  have h₂ := toNat_append_add 0#18 sel
  exact h₁.trans (by rw [h₂]; simp)

/-! ### Fields of encoded words -/

variable (op : BitVec 8) (sel : Sel) (imm : Half)

@[simp] theorem opcodeField_encodeN : opcodeField (encodeN op) = op :=
  BitVec.eq_of_toNat_eq (by rw [opcodeField_toNat, encodeN_toNat]; omega)

@[simp] theorem opcodeField_encodeI : opcodeField (encodeI op imm) = op :=
  BitVec.eq_of_toNat_eq (by rw [opcodeField_toNat, encodeI_toNat]; omega)

@[simp] theorem opcodeField_encodeS : opcodeField (encodeS op sel imm) = op :=
  BitVec.eq_of_toNat_eq (by rw [opcodeField_toNat, encodeS_toNat]; omega)

@[simp] theorem opcodeField_encodeR : opcodeField (encodeR op sel) = op :=
  BitVec.eq_of_toNat_eq (by rw [opcodeField_toNat, encodeR_toNat]; omega)

@[simp] theorem selField_encodeS : selField (encodeS op sel imm) = sel :=
  BitVec.eq_of_toNat_eq (by rw [selField_toNat, encodeS_toNat]; omega)

@[simp] theorem selField_encodeR : selField (encodeR op sel) = sel :=
  BitVec.eq_of_toNat_eq (by rw [selField_toNat, encodeR_toNat]; omega)

@[simp] theorem immField_encodeI : immField (encodeI op imm) = imm :=
  BitVec.eq_of_toNat_eq (by rw [immField_toNat, encodeI_toNat]; omega)

@[simp] theorem immField_encodeS : immField (encodeS op sel imm) = imm :=
  BitVec.eq_of_toNat_eq (by rw [immField_toNat, encodeS_toNat]; omega)

/-! ### The fixed bits: the opcode and the reserved bits -/

theorem append_and {m n : Nat} (a c : BitVec m) (b d : BitVec n) : (a ++ b) &&& (c ++ d) = (a &&& c) ++ (b &&& d) := by
  ext j hj; simp only [BitVec.getElem_and, BitVec.getElem_append]; split <;> rfl

/-- A word is its four fields: immediate, bits 15:14, selector, opcode. -/
theorem word_eq_fields (w : Word) : w = immField w ++ w.extractLsb' 14 2 ++ selField w ++ opcodeField w := by
  have h₁ := toNat_append_add (immField w ++ w.extractLsb' 14 2 ++ selField w) (opcodeField w)
  have h₂ := toNat_append_add (immField w ++ w.extractLsb' 14 2) (selField w)
  have h₃ := toNat_append_add (immField w) (w.extractLsb' 14 2)
  have h₄ : (w.extractLsb' 14 2).toNat = w.toNat / 16384 % 4 := by simp [Nat.shiftRight_eq_div_pow]
  refine BitVec.eq_of_toNat_eq (Eq.trans ?_ h₁.symm)
  rw [h₂, h₃, h₄, immField_toNat, selField_toNat, opcodeField_toNat]; omega

theorem and_fields (w : Word) (a : Half) (b : BitVec 2) (c : Sel) (d : Byte) : w &&& (a ++ b ++ c ++ d) =
    (immField w &&& a) ++ (w.extractLsb' 14 2 &&& b) ++ (selField w &&& c) ++ (opcodeField w &&& d) := by
  conv => lhs; rw [word_eq_fields w]
  exact (append_and _ _ _ _).trans (by rw [append_and, append_and])

theorem append_inj {m n : Nat} {a c : BitVec m} {b d : BitVec n} : a ++ b = c ++ d ↔ a = c ∧ b = d := by
  constructor
  · intro h
    have h := congrArg BitVec.toNat h
    rw [toNat_append_add, toNat_append_add] at h
    have hb := b.isLt; have hd := d.isLt
    have h₂ : b.toNat = d.toNat := by
      have := congrArg (· % 2 ^ n) h
      simpa [Nat.mul_add_mod_self_right, Nat.mod_eq_of_lt hb, Nat.mod_eq_of_lt hd] using this
    refine ⟨BitVec.eq_of_toNat_eq ?_, BitVec.eq_of_toNat_eq h₂⟩
    rw [h₂] at h
    exact Nat.eq_of_mul_eq_mul_right (by positivity) (Nat.add_right_cancel h)
  · rintro ⟨rfl, rfl⟩; rfl

theorem opcode_setWidth (op : Byte) : op.setWidth 32 = (0#16 : Half) ++ 0#2 ++ (0#6 : Sel) ++ op :=
  BitVec.eq_of_toNat_eq (by
    have h := toNat_append_add ((0#16 : Half) ++ 0#2 ++ (0#6 : Sel)) op
    refine Eq.trans ?_ h.symm
    simp; omega)

/-- What a format's fixed bits require of a word: the opcode and the format's reserved fields (R76 to R79). -/
theorem fixedBits_iff (fmt : Format) (w : Word) (op : Byte) : w &&& fmt.mask = op.setWidth 32 ↔
    opcodeField w = op ∧ w.extractLsb' 14 2 = 0#2 ∧ (fmt = .N ∨ fmt = .I → selField w = 0#6) ∧
      (fmt = .N ∨ fmt = .R → immField w = 0#16) := by
  have hm : fmt.mask = (if fmt = .N ∨ fmt = .R then 0xFFFF#16 else 0#16) ++ 3#2
      ++ (if fmt = .N ∨ fmt = .I then 0x3F#6 else 0#6) ++ 0xFF#8 := by cases fmt <;> decide
  rw [hm, and_fields, opcode_setWidth]
  erw [append_inj, append_inj, append_inj]
  have e₁ : immField w &&& 0xFFFF#16 = immField w := BitVec.and_allOnes (x := immField w)
  have e₂ : selField w &&& 0x3F#6 = selField w := BitVec.and_allOnes (x := selField w)
  have e₃ : opcodeField w &&& 0xFF#8 = opcodeField w := BitVec.and_allOnes (x := opcodeField w)
  have e₄ : w.extractLsb' 14 2 &&& 3#2 = w.extractLsb' 14 2 := BitVec.and_allOnes (x := w.extractLsb' 14 2)
  rw [e₃, e₄]
  cases fmt <;> simp [e₁, e₂] <;> tauto

theorem reservedPair_encodeI : (encodeI op imm).extractLsb' 14 2 = 0#2 :=
  BitVec.eq_of_toNat_eq (by
    rw [BitVec.extractLsb'_toNat, encodeI_toNat, Nat.shiftRight_eq_div_pow]; simp; omega)

theorem reservedPair_encodeS : (encodeS op sel imm).extractLsb' 14 2 = 0#2 :=
  BitVec.eq_of_toNat_eq (by
    rw [BitVec.extractLsb'_toNat, encodeS_toNat, Nat.shiftRight_eq_div_pow]; simp; omega)

theorem selField_encodeI : selField (encodeI op imm) = 0#6 :=
  BitVec.eq_of_toNat_eq (by rw [selField_toNat, encodeI_toNat]; simp; omega)

@[simp] theorem encodeN_fixed : encodeN op &&& Format.N.mask = op.setWidth 32 := by
  have : encodeN op = op.setWidth 32 := BitVec.eq_of_toNat_eq (by rw [encodeN_toNat]; simp; omega)
  rw [this]; exact BitVec.and_allOnes

@[simp] theorem encodeI_fixed : encodeI op imm &&& Format.I.mask = op.setWidth 32 := by
  simp [fixedBits_iff, reservedPair_encodeI, selField_encodeI]

@[simp] theorem encodeS_fixed : encodeS op sel imm &&& Format.S.mask = op.setWidth 32 := by
  simp [fixedBits_iff, reservedPair_encodeS]

@[simp] theorem encodeR_fixed : encodeR op sel &&& Format.R.mask = op.setWidth 32 := by
  have h : encodeR op sel = encodeS op sel 0#16 :=
    BitVec.eq_of_toNat_eq (by rw [encodeR_toNat, encodeS_toNat]; simp)
  rw [fixedBits_iff, h]; simp [reservedPair_encodeS]

end Sys2Proof
end

