-- ==== Sys2Proof/Laws/State.lean ====
section
/-! SUPPORT. One lemma for each field of the state and each operation that updates the state, so that no later proof
unfolds a record update. -/

namespace Sys2Proof.Machine

variable (s : State)

@[simp] theorem raiseError_regs (e : CmdError) (w : Word) : (raiseError e w s).regs = recordError e w s.regs := rfl
@[simp] theorem raiseError_rdata (e : CmdError) (w : Word) : (raiseError e w s).rdata = s.rdata := rfl
@[simp] theorem raiseError_params (e : CmdError) (w : Word) : (raiseError e w s).params = s.params := rfl
@[simp] theorem raiseError_events (e : CmdError) (w : Word) : (raiseError e w s).events = s.events := rfl
@[simp] theorem raiseError_samples (e : CmdError) (w : Word) : (raiseError e w s).samples = s.samples := rfl
@[simp] theorem raiseError_draws (e : CmdError) (w : Word) : (raiseError e w s).draws = s.draws := rfl

@[simp] theorem onRegs_regs (f : Params → Regs → Regs) : (onRegs f s).regs = f s.params s.regs := rfl
@[simp] theorem onRegs_rdata (f : Params → Regs → Regs) : (onRegs f s).rdata = s.rdata := rfl
@[simp] theorem onRegs_params (f : Params → Regs → Regs) : (onRegs f s).params = s.params := rfl
@[simp] theorem onRegs_events (f : Params → Regs → Regs) : (onRegs f s).events = s.events := rfl
@[simp] theorem onRegs_samples (f : Params → Regs → Regs) : (onRegs f s).samples = s.samples := rfl
@[simp] theorem onRegs_draws (f : Params → Regs → Regs) : (onRegs f s).draws = s.draws := rfl

@[simp] theorem portsTaken_regs : s.portsTaken.regs = s.regs := by unfold State.portsTaken; split <;> rfl
@[simp] theorem portsTaken_rdata : s.portsTaken.rdata = s.rdata := by unfold State.portsTaken; split <;> rfl
@[simp] theorem portsTaken_params : s.portsTaken.params = s.params := by unfold State.portsTaken; split <;> rfl
@[simp] theorem portsTaken_events : s.portsTaken.events = s.events := by unfold State.portsTaken; split <;> rfl
@[simp] theorem portsTaken_samples : s.portsTaken.samples = s.samples.tail := by
  unfold State.portsTaken; split <;> simp_all
theorem portsTaken_draws : s.portsTaken.draws = if s.samples = [] then s.draws + 1 else s.draws := by
  unfold State.portsTaken; split <;> simp_all

@[simp] theorem eventTaken_regs : s.eventTaken.regs = s.regs := by unfold State.eventTaken; split <;> rfl
@[simp] theorem eventTaken_rdata : s.eventTaken.rdata = s.rdata := by unfold State.eventTaken; split <;> rfl
@[simp] theorem eventTaken_params : s.eventTaken.params = s.params := by unfold State.eventTaken; split <;> rfl
@[simp] theorem eventTaken_samples : s.eventTaken.samples = s.samples := by unfold State.eventTaken; split <;> rfl
theorem eventTaken_events : s.eventTaken.events = eventLeftover s.nextEvent ++ s.events.tail := by
  unfold State.eventTaken; split <;> simp_all
theorem eventTaken_draws : s.eventTaken.draws = if s.events = [] then s.draws + 1 else s.draws := by
  unfold State.eventTaken; split <;> simp_all

@[simp] theorem samplePorts_regs : (samplePorts s).regs = latch s.portValues s.regs := rfl
@[simp] theorem samplePorts_rdata : (samplePorts s).rdata = s.rdata := by simp [samplePorts]
@[simp] theorem samplePorts_params : (samplePorts s).params = s.params := by simp [samplePorts]
@[simp] theorem samplePorts_events : (samplePorts s).events = s.events := by simp [samplePorts]
@[simp] theorem samplePorts_samples : (samplePorts s).samples = s.samples.tail := by simp [samplePorts]
@[simp] theorem samplePorts_draws : (samplePorts s).draws = s.portsTaken.draws := rfl

@[simp] theorem resetBlock_regs : (resetBlock s).regs = Regs.reset := rfl
@[simp] theorem resetBlock_rdata : (resetBlock s).rdata = 0#32 := rfl
@[simp] theorem resetBlock_params : (resetBlock s).params = s.params := rfl
@[simp] theorem resetBlock_events : (resetBlock s).events = s.events := rfl
@[simp] theorem resetBlock_samples : (resetBlock s).samples = s.samples := rfl
@[simp] theorem resetBlock_draws : (resetBlock s).draws = s.draws := rfl

@[simp] theorem placeCommand_regs (w : Word) : (placeCommand s w).regs = s.regs := rfl
@[simp] theorem placeCommand_rdata (w : Word) : (placeCommand s w).rdata = s.rdata := rfl
@[simp] theorem placeCommand_params (w : Word) : (placeCommand s w).params = s.params := rfl
@[simp] theorem placeCommand_events (w : Word) :
    (placeCommand s w).events = { rst := false, tick := false, cmd := some w } :: s.events := rfl
@[simp] theorem placeCommand_samples (w : Word) : (placeCommand s w).samples = s.samples := rfl
@[simp] theorem placeCommand_draws (w : Word) : (placeCommand s w).draws = s.draws := rfl

theorem nextEvent_of_events {e : Event} {rest : List Event} (h : s.events = e :: rest) : s.nextEvent = e := by
  simp [State.nextEvent, h]

theorem portValues_of_samples {v : Sample} {rest : List Sample} (h : s.samples = v :: rest) : s.portValues = v := by
  simp [State.portValues, h]

@[simp] theorem eventTaken_portValues_of_events {e : Event} {rest : List Event} (h : s.events = e :: rest) :
    s.eventTaken.portValues = s.portValues := by
  simp [State.portValues, eventTaken_draws, h]

theorem isHalted_iff : s.isHalted = true ↔ s.regs.poweroff = 1#1 := by simp [State.isHalted]

theorem isHalted_eq_false_iff : s.isHalted = false ↔ s.regs.poweroff = 0#1 := by
  rw [State.isHalted, decide_eq_false_iff_not]
  rcases BitVec.eq_zero_or_eq_one s.regs.poweroff with h | h <;> simp [h]

theorem inRunPhase_iff : s.inRunPhase = true ↔ s.regs.ponState = 4#3 := by simp [State.inRunPhase]

end Sys2Proof.Machine
end

