-- ==== Sys2Proof/Laws/Regs.lean ====
section
/-! SUPPORT. What each stage leaves alone: one lemma for each operation on the register file, over the registers it does
not write, so that no later proof unfolds a record update. -/

namespace Sys2Proof.Machine

variable (x : Regs)

/-- `recordError` writes only `errCause`, `errWord`. -/
@[simp] theorem recordError_keeps (e : CmdError) (w : Word) :
    (recordError e w x).cmdSteer = x.cmdSteer ∧ (recordError e w x).cmdSpeed = x.cmdSpeed ∧ (recordError e w
    x).rsSteer = x.rsSteer ∧ (recordError e w x).rsSpeed = x.rsSpeed ∧ (recordError e w x).accSteer = x.accSteer ∧
    (recordError e w x).accSpeed = x.accSpeed ∧ (recordError e w x).accTemp = x.accTemp ∧ (recordError e w x).steer
    = x.steer ∧ (recordError e w x).speed = x.speed ∧ (recordError e w x).motL = x.motL ∧ (recordError e w x).motR =
    x.motR ∧ (recordError e w x).outL = x.outL ∧ (recordError e w x).outR = x.outR ∧ (recordError e w x).sdc = x.sdc
    ∧ (recordError e w x).spdL = x.spdL ∧ (recordError e w x).spdR = x.spdR ∧ (recordError e w x).speedAvg =
    x.speedAvg ∧ (recordError e w x).speedAvgAbs = x.speedAvgAbs ∧ (recordError e w x).speedBlend = x.speedBlend ∧
    (recordError e w x).tempRaw = x.tempRaw ∧ (recordError e w x).tempFilt = x.tempFilt ∧ (recordError e w x).bat =
    x.bat ∧ (recordError e w x).faultL = x.faultL ∧ (recordError e w x).faultR = x.faultR ∧ (recordError e w
    x).flagsIn = x.flagsIn ∧ (recordError e w x).enable = x.enable ∧ (recordError e w x).backward = x.backward ∧
    (recordError e w x).poweroff = x.poweroff ∧ (recordError e w x).cause = x.cause ∧ (recordError e w x).alert =
    x.alert ∧ (recordError e w x).inactCnt = x.inactCnt ∧ (recordError e w x).tickCnt = x.tickCnt ∧ (recordError e w
    x).fbStrobe = x.fbStrobe ∧ (recordError e w x).ponState = x.ponState ∧ (recordError e w x).ponTimer = x.ponTimer
    ∧ (recordError e w x).ponTaps = x.ponTaps ∧ (recordError e w x).ponPress = x.ponPress := by
  refine ⟨?_, ?_, ?_, ?_, ?_, ?_, ?_, ?_, ?_, ?_, ?_, ?_, ?_, ?_, ?_, ?_, ?_, ?_, ?_, ?_, ?_, ?_, ?_, ?_, ?_, ?_, ?_, ?_, ?_, ?_, ?_, ?_, ?_, ?_, ?_, ?_, ?_⟩ <;>
    (unfold recordError; split <;> rfl)

/-- `clearRecord` writes only `errCause`, `errWord`. -/
@[simp] theorem clearRecord_keeps :
    (clearRecord x).cmdSteer = x.cmdSteer ∧ (clearRecord x).cmdSpeed = x.cmdSpeed ∧ (clearRecord x).rsSteer =
    x.rsSteer ∧ (clearRecord x).rsSpeed = x.rsSpeed ∧ (clearRecord x).accSteer = x.accSteer ∧ (clearRecord
    x).accSpeed = x.accSpeed ∧ (clearRecord x).accTemp = x.accTemp ∧ (clearRecord x).steer = x.steer ∧ (clearRecord
    x).speed = x.speed ∧ (clearRecord x).motL = x.motL ∧ (clearRecord x).motR = x.motR ∧ (clearRecord x).outL =
    x.outL ∧ (clearRecord x).outR = x.outR ∧ (clearRecord x).sdc = x.sdc ∧ (clearRecord x).spdL = x.spdL ∧
    (clearRecord x).spdR = x.spdR ∧ (clearRecord x).speedAvg = x.speedAvg ∧ (clearRecord x).speedAvgAbs =
    x.speedAvgAbs ∧ (clearRecord x).speedBlend = x.speedBlend ∧ (clearRecord x).tempRaw = x.tempRaw ∧ (clearRecord
    x).tempFilt = x.tempFilt ∧ (clearRecord x).bat = x.bat ∧ (clearRecord x).faultL = x.faultL ∧ (clearRecord
    x).faultR = x.faultR ∧ (clearRecord x).flagsIn = x.flagsIn ∧ (clearRecord x).enable = x.enable ∧ (clearRecord
    x).backward = x.backward ∧ (clearRecord x).poweroff = x.poweroff ∧ (clearRecord x).cause = x.cause ∧
    (clearRecord x).alert = x.alert ∧ (clearRecord x).inactCnt = x.inactCnt ∧ (clearRecord x).tickCnt = x.tickCnt ∧
    (clearRecord x).fbStrobe = x.fbStrobe ∧ (clearRecord x).ponState = x.ponState ∧ (clearRecord x).ponTimer =
    x.ponTimer ∧ (clearRecord x).ponTaps = x.ponTaps ∧ (clearRecord x).ponPress = x.ponPress := by
  refine ⟨?_, ?_, ?_, ?_, ?_, ?_, ?_, ?_, ?_, ?_, ?_, ?_, ?_, ?_, ?_, ?_, ?_, ?_, ?_, ?_, ?_, ?_, ?_, ?_, ?_, ?_, ?_, ?_, ?_, ?_, ?_, ?_, ?_, ?_, ?_, ?_, ?_⟩ <;> rfl

/-- `rateLimitSteer` writes only `rsSteer`. -/
@[simp] theorem rateLimitSteer_keeps (step : Half) :
    (rateLimitSteer step x).cmdSteer = x.cmdSteer ∧ (rateLimitSteer step x).cmdSpeed = x.cmdSpeed ∧ (rateLimitSteer
    step x).rsSpeed = x.rsSpeed ∧ (rateLimitSteer step x).accSteer = x.accSteer ∧ (rateLimitSteer step x).accSpeed =
    x.accSpeed ∧ (rateLimitSteer step x).accTemp = x.accTemp ∧ (rateLimitSteer step x).steer = x.steer ∧
    (rateLimitSteer step x).speed = x.speed ∧ (rateLimitSteer step x).motL = x.motL ∧ (rateLimitSteer step x).motR =
    x.motR ∧ (rateLimitSteer step x).outL = x.outL ∧ (rateLimitSteer step x).outR = x.outR ∧ (rateLimitSteer step
    x).sdc = x.sdc ∧ (rateLimitSteer step x).spdL = x.spdL ∧ (rateLimitSteer step x).spdR = x.spdR ∧ (rateLimitSteer
    step x).speedAvg = x.speedAvg ∧ (rateLimitSteer step x).speedAvgAbs = x.speedAvgAbs ∧ (rateLimitSteer step
    x).speedBlend = x.speedBlend ∧ (rateLimitSteer step x).tempRaw = x.tempRaw ∧ (rateLimitSteer step x).tempFilt =
    x.tempFilt ∧ (rateLimitSteer step x).bat = x.bat ∧ (rateLimitSteer step x).faultL = x.faultL ∧ (rateLimitSteer
    step x).faultR = x.faultR ∧ (rateLimitSteer step x).flagsIn = x.flagsIn ∧ (rateLimitSteer step x).enable =
    x.enable ∧ (rateLimitSteer step x).backward = x.backward ∧ (rateLimitSteer step x).poweroff = x.poweroff ∧
    (rateLimitSteer step x).cause = x.cause ∧ (rateLimitSteer step x).alert = x.alert ∧ (rateLimitSteer step
    x).inactCnt = x.inactCnt ∧ (rateLimitSteer step x).tickCnt = x.tickCnt ∧ (rateLimitSteer step x).fbStrobe =
    x.fbStrobe ∧ (rateLimitSteer step x).ponState = x.ponState ∧ (rateLimitSteer step x).ponTimer = x.ponTimer ∧
    (rateLimitSteer step x).ponTaps = x.ponTaps ∧ (rateLimitSteer step x).ponPress = x.ponPress ∧ (rateLimitSteer
    step x).errCause = x.errCause ∧ (rateLimitSteer step x).errWord = x.errWord := by
  refine ⟨?_, ?_, ?_, ?_, ?_, ?_, ?_, ?_, ?_, ?_, ?_, ?_, ?_, ?_, ?_, ?_, ?_, ?_, ?_, ?_, ?_, ?_, ?_, ?_, ?_, ?_, ?_, ?_, ?_, ?_, ?_, ?_, ?_, ?_, ?_, ?_, ?_, ?_⟩ <;> rfl

/-- `rateLimitSpeed` writes only `rsSpeed`. -/
@[simp] theorem rateLimitSpeed_keeps (step : Half) :
    (rateLimitSpeed step x).cmdSteer = x.cmdSteer ∧ (rateLimitSpeed step x).cmdSpeed = x.cmdSpeed ∧ (rateLimitSpeed
    step x).rsSteer = x.rsSteer ∧ (rateLimitSpeed step x).accSteer = x.accSteer ∧ (rateLimitSpeed step x).accSpeed =
    x.accSpeed ∧ (rateLimitSpeed step x).accTemp = x.accTemp ∧ (rateLimitSpeed step x).steer = x.steer ∧
    (rateLimitSpeed step x).speed = x.speed ∧ (rateLimitSpeed step x).motL = x.motL ∧ (rateLimitSpeed step x).motR =
    x.motR ∧ (rateLimitSpeed step x).outL = x.outL ∧ (rateLimitSpeed step x).outR = x.outR ∧ (rateLimitSpeed step
    x).sdc = x.sdc ∧ (rateLimitSpeed step x).spdL = x.spdL ∧ (rateLimitSpeed step x).spdR = x.spdR ∧ (rateLimitSpeed
    step x).speedAvg = x.speedAvg ∧ (rateLimitSpeed step x).speedAvgAbs = x.speedAvgAbs ∧ (rateLimitSpeed step
    x).speedBlend = x.speedBlend ∧ (rateLimitSpeed step x).tempRaw = x.tempRaw ∧ (rateLimitSpeed step x).tempFilt =
    x.tempFilt ∧ (rateLimitSpeed step x).bat = x.bat ∧ (rateLimitSpeed step x).faultL = x.faultL ∧ (rateLimitSpeed
    step x).faultR = x.faultR ∧ (rateLimitSpeed step x).flagsIn = x.flagsIn ∧ (rateLimitSpeed step x).enable =
    x.enable ∧ (rateLimitSpeed step x).backward = x.backward ∧ (rateLimitSpeed step x).poweroff = x.poweroff ∧
    (rateLimitSpeed step x).cause = x.cause ∧ (rateLimitSpeed step x).alert = x.alert ∧ (rateLimitSpeed step
    x).inactCnt = x.inactCnt ∧ (rateLimitSpeed step x).tickCnt = x.tickCnt ∧ (rateLimitSpeed step x).fbStrobe =
    x.fbStrobe ∧ (rateLimitSpeed step x).ponState = x.ponState ∧ (rateLimitSpeed step x).ponTimer = x.ponTimer ∧
    (rateLimitSpeed step x).ponTaps = x.ponTaps ∧ (rateLimitSpeed step x).ponPress = x.ponPress ∧ (rateLimitSpeed
    step x).errCause = x.errCause ∧ (rateLimitSpeed step x).errWord = x.errWord := by
  refine ⟨?_, ?_, ?_, ?_, ?_, ?_, ?_, ?_, ?_, ?_, ?_, ?_, ?_, ?_, ?_, ?_, ?_, ?_, ?_, ?_, ?_, ?_, ?_, ?_, ?_, ?_, ?_, ?_, ?_, ?_, ?_, ?_, ?_, ?_, ?_, ?_, ?_, ?_⟩ <;> rfl

/-- `filterSteer` writes only `accSteer`. -/
@[simp] theorem filterSteer_keeps (coef : Half) (p : Params) :
    (filterSteer coef p x).cmdSteer = x.cmdSteer ∧ (filterSteer coef p x).cmdSpeed = x.cmdSpeed ∧ (filterSteer coef
    p x).rsSteer = x.rsSteer ∧ (filterSteer coef p x).rsSpeed = x.rsSpeed ∧ (filterSteer coef p x).accSpeed =
    x.accSpeed ∧ (filterSteer coef p x).accTemp = x.accTemp ∧ (filterSteer coef p x).steer = x.steer ∧ (filterSteer
    coef p x).speed = x.speed ∧ (filterSteer coef p x).motL = x.motL ∧ (filterSteer coef p x).motR = x.motR ∧
    (filterSteer coef p x).outL = x.outL ∧ (filterSteer coef p x).outR = x.outR ∧ (filterSteer coef p x).sdc = x.sdc
    ∧ (filterSteer coef p x).spdL = x.spdL ∧ (filterSteer coef p x).spdR = x.spdR ∧ (filterSteer coef p x).speedAvg
    = x.speedAvg ∧ (filterSteer coef p x).speedAvgAbs = x.speedAvgAbs ∧ (filterSteer coef p x).speedBlend =
    x.speedBlend ∧ (filterSteer coef p x).tempRaw = x.tempRaw ∧ (filterSteer coef p x).tempFilt = x.tempFilt ∧
    (filterSteer coef p x).bat = x.bat ∧ (filterSteer coef p x).faultL = x.faultL ∧ (filterSteer coef p x).faultR =
    x.faultR ∧ (filterSteer coef p x).flagsIn = x.flagsIn ∧ (filterSteer coef p x).enable = x.enable ∧ (filterSteer
    coef p x).backward = x.backward ∧ (filterSteer coef p x).poweroff = x.poweroff ∧ (filterSteer coef p x).cause =
    x.cause ∧ (filterSteer coef p x).alert = x.alert ∧ (filterSteer coef p x).inactCnt = x.inactCnt ∧ (filterSteer
    coef p x).tickCnt = x.tickCnt ∧ (filterSteer coef p x).fbStrobe = x.fbStrobe ∧ (filterSteer coef p x).ponState =
    x.ponState ∧ (filterSteer coef p x).ponTimer = x.ponTimer ∧ (filterSteer coef p x).ponTaps = x.ponTaps ∧
    (filterSteer coef p x).ponPress = x.ponPress ∧ (filterSteer coef p x).errCause = x.errCause ∧ (filterSteer coef
    p x).errWord = x.errWord := by
  refine ⟨?_, ?_, ?_, ?_, ?_, ?_, ?_, ?_, ?_, ?_, ?_, ?_, ?_, ?_, ?_, ?_, ?_, ?_, ?_, ?_, ?_, ?_, ?_, ?_, ?_, ?_, ?_, ?_, ?_, ?_, ?_, ?_, ?_, ?_, ?_, ?_, ?_, ?_⟩ <;> rfl

/-- `filterSpeed` writes only `accSpeed`. -/
@[simp] theorem filterSpeed_keeps (coef : Half) (p : Params) :
    (filterSpeed coef p x).cmdSteer = x.cmdSteer ∧ (filterSpeed coef p x).cmdSpeed = x.cmdSpeed ∧ (filterSpeed coef
    p x).rsSteer = x.rsSteer ∧ (filterSpeed coef p x).rsSpeed = x.rsSpeed ∧ (filterSpeed coef p x).accSteer =
    x.accSteer ∧ (filterSpeed coef p x).accTemp = x.accTemp ∧ (filterSpeed coef p x).steer = x.steer ∧ (filterSpeed
    coef p x).speed = x.speed ∧ (filterSpeed coef p x).motL = x.motL ∧ (filterSpeed coef p x).motR = x.motR ∧
    (filterSpeed coef p x).outL = x.outL ∧ (filterSpeed coef p x).outR = x.outR ∧ (filterSpeed coef p x).sdc = x.sdc
    ∧ (filterSpeed coef p x).spdL = x.spdL ∧ (filterSpeed coef p x).spdR = x.spdR ∧ (filterSpeed coef p x).speedAvg
    = x.speedAvg ∧ (filterSpeed coef p x).speedAvgAbs = x.speedAvgAbs ∧ (filterSpeed coef p x).speedBlend =
    x.speedBlend ∧ (filterSpeed coef p x).tempRaw = x.tempRaw ∧ (filterSpeed coef p x).tempFilt = x.tempFilt ∧
    (filterSpeed coef p x).bat = x.bat ∧ (filterSpeed coef p x).faultL = x.faultL ∧ (filterSpeed coef p x).faultR =
    x.faultR ∧ (filterSpeed coef p x).flagsIn = x.flagsIn ∧ (filterSpeed coef p x).enable = x.enable ∧ (filterSpeed
    coef p x).backward = x.backward ∧ (filterSpeed coef p x).poweroff = x.poweroff ∧ (filterSpeed coef p x).cause =
    x.cause ∧ (filterSpeed coef p x).alert = x.alert ∧ (filterSpeed coef p x).inactCnt = x.inactCnt ∧ (filterSpeed
    coef p x).tickCnt = x.tickCnt ∧ (filterSpeed coef p x).fbStrobe = x.fbStrobe ∧ (filterSpeed coef p x).ponState =
    x.ponState ∧ (filterSpeed coef p x).ponTimer = x.ponTimer ∧ (filterSpeed coef p x).ponTaps = x.ponTaps ∧
    (filterSpeed coef p x).ponPress = x.ponPress ∧ (filterSpeed coef p x).errCause = x.errCause ∧ (filterSpeed coef
    p x).errWord = x.errWord := by
  refine ⟨?_, ?_, ?_, ?_, ?_, ?_, ?_, ?_, ?_, ?_, ?_, ?_, ?_, ?_, ?_, ?_, ?_, ?_, ?_, ?_, ?_, ?_, ?_, ?_, ?_, ?_, ?_, ?_, ?_, ?_, ?_, ?_, ?_, ?_, ?_, ?_, ?_, ?_⟩ <;> rfl

/-- `filterTemp` writes only `accTemp`. -/
@[simp] theorem filterTemp_keeps (coef : Half) (p : Params) :
    (filterTemp coef p x).cmdSteer = x.cmdSteer ∧ (filterTemp coef p x).cmdSpeed = x.cmdSpeed ∧ (filterTemp coef p
    x).rsSteer = x.rsSteer ∧ (filterTemp coef p x).rsSpeed = x.rsSpeed ∧ (filterTemp coef p x).accSteer = x.accSteer
    ∧ (filterTemp coef p x).accSpeed = x.accSpeed ∧ (filterTemp coef p x).steer = x.steer ∧ (filterTemp coef p
    x).speed = x.speed ∧ (filterTemp coef p x).motL = x.motL ∧ (filterTemp coef p x).motR = x.motR ∧ (filterTemp
    coef p x).outL = x.outL ∧ (filterTemp coef p x).outR = x.outR ∧ (filterTemp coef p x).sdc = x.sdc ∧ (filterTemp
    coef p x).spdL = x.spdL ∧ (filterTemp coef p x).spdR = x.spdR ∧ (filterTemp coef p x).speedAvg = x.speedAvg ∧
    (filterTemp coef p x).speedAvgAbs = x.speedAvgAbs ∧ (filterTemp coef p x).speedBlend = x.speedBlend ∧
    (filterTemp coef p x).tempRaw = x.tempRaw ∧ (filterTemp coef p x).tempFilt = x.tempFilt ∧ (filterTemp coef p
    x).bat = x.bat ∧ (filterTemp coef p x).faultL = x.faultL ∧ (filterTemp coef p x).faultR = x.faultR ∧ (filterTemp
    coef p x).flagsIn = x.flagsIn ∧ (filterTemp coef p x).enable = x.enable ∧ (filterTemp coef p x).backward =
    x.backward ∧ (filterTemp coef p x).poweroff = x.poweroff ∧ (filterTemp coef p x).cause = x.cause ∧ (filterTemp
    coef p x).alert = x.alert ∧ (filterTemp coef p x).inactCnt = x.inactCnt ∧ (filterTemp coef p x).tickCnt =
    x.tickCnt ∧ (filterTemp coef p x).fbStrobe = x.fbStrobe ∧ (filterTemp coef p x).ponState = x.ponState ∧
    (filterTemp coef p x).ponTimer = x.ponTimer ∧ (filterTemp coef p x).ponTaps = x.ponTaps ∧ (filterTemp coef p
    x).ponPress = x.ponPress ∧ (filterTemp coef p x).errCause = x.errCause ∧ (filterTemp coef p x).errWord =
    x.errWord := by
  refine ⟨?_, ?_, ?_, ?_, ?_, ?_, ?_, ?_, ?_, ?_, ?_, ?_, ?_, ?_, ?_, ?_, ?_, ?_, ?_, ?_, ?_, ?_, ?_, ?_, ?_, ?_, ?_, ?_, ?_, ?_, ?_, ?_, ?_, ?_, ?_, ?_, ?_, ?_⟩ <;> rfl

/-- `shapeSteer` writes only `steer`. -/
@[simp] theorem shapeSteer_keeps (p : Params) :
    (shapeSteer p x).cmdSteer = x.cmdSteer ∧ (shapeSteer p x).cmdSpeed = x.cmdSpeed ∧ (shapeSteer p x).rsSteer =
    x.rsSteer ∧ (shapeSteer p x).rsSpeed = x.rsSpeed ∧ (shapeSteer p x).accSteer = x.accSteer ∧ (shapeSteer p
    x).accSpeed = x.accSpeed ∧ (shapeSteer p x).accTemp = x.accTemp ∧ (shapeSteer p x).speed = x.speed ∧ (shapeSteer
    p x).motL = x.motL ∧ (shapeSteer p x).motR = x.motR ∧ (shapeSteer p x).outL = x.outL ∧ (shapeSteer p x).outR =
    x.outR ∧ (shapeSteer p x).sdc = x.sdc ∧ (shapeSteer p x).spdL = x.spdL ∧ (shapeSteer p x).spdR = x.spdR ∧
    (shapeSteer p x).speedAvg = x.speedAvg ∧ (shapeSteer p x).speedAvgAbs = x.speedAvgAbs ∧ (shapeSteer p
    x).speedBlend = x.speedBlend ∧ (shapeSteer p x).tempRaw = x.tempRaw ∧ (shapeSteer p x).tempFilt = x.tempFilt ∧
    (shapeSteer p x).bat = x.bat ∧ (shapeSteer p x).faultL = x.faultL ∧ (shapeSteer p x).faultR = x.faultR ∧
    (shapeSteer p x).flagsIn = x.flagsIn ∧ (shapeSteer p x).enable = x.enable ∧ (shapeSteer p x).backward =
    x.backward ∧ (shapeSteer p x).poweroff = x.poweroff ∧ (shapeSteer p x).cause = x.cause ∧ (shapeSteer p x).alert
    = x.alert ∧ (shapeSteer p x).inactCnt = x.inactCnt ∧ (shapeSteer p x).tickCnt = x.tickCnt ∧ (shapeSteer p
    x).fbStrobe = x.fbStrobe ∧ (shapeSteer p x).ponState = x.ponState ∧ (shapeSteer p x).ponTimer = x.ponTimer ∧
    (shapeSteer p x).ponTaps = x.ponTaps ∧ (shapeSteer p x).ponPress = x.ponPress ∧ (shapeSteer p x).errCause =
    x.errCause ∧ (shapeSteer p x).errWord = x.errWord := by
  refine ⟨?_, ?_, ?_, ?_, ?_, ?_, ?_, ?_, ?_, ?_, ?_, ?_, ?_, ?_, ?_, ?_, ?_, ?_, ?_, ?_, ?_, ?_, ?_, ?_, ?_, ?_, ?_, ?_, ?_, ?_, ?_, ?_, ?_, ?_, ?_, ?_, ?_, ?_⟩ <;> rfl

/-- `shapeSpeed` writes only `speed`. -/
@[simp] theorem shapeSpeed_keeps (p : Params) :
    (shapeSpeed p x).cmdSteer = x.cmdSteer ∧ (shapeSpeed p x).cmdSpeed = x.cmdSpeed ∧ (shapeSpeed p x).rsSteer =
    x.rsSteer ∧ (shapeSpeed p x).rsSpeed = x.rsSpeed ∧ (shapeSpeed p x).accSteer = x.accSteer ∧ (shapeSpeed p
    x).accSpeed = x.accSpeed ∧ (shapeSpeed p x).accTemp = x.accTemp ∧ (shapeSpeed p x).steer = x.steer ∧ (shapeSpeed
    p x).motL = x.motL ∧ (shapeSpeed p x).motR = x.motR ∧ (shapeSpeed p x).outL = x.outL ∧ (shapeSpeed p x).outR =
    x.outR ∧ (shapeSpeed p x).sdc = x.sdc ∧ (shapeSpeed p x).spdL = x.spdL ∧ (shapeSpeed p x).spdR = x.spdR ∧
    (shapeSpeed p x).speedAvg = x.speedAvg ∧ (shapeSpeed p x).speedAvgAbs = x.speedAvgAbs ∧ (shapeSpeed p
    x).speedBlend = x.speedBlend ∧ (shapeSpeed p x).tempRaw = x.tempRaw ∧ (shapeSpeed p x).tempFilt = x.tempFilt ∧
    (shapeSpeed p x).bat = x.bat ∧ (shapeSpeed p x).faultL = x.faultL ∧ (shapeSpeed p x).faultR = x.faultR ∧
    (shapeSpeed p x).flagsIn = x.flagsIn ∧ (shapeSpeed p x).enable = x.enable ∧ (shapeSpeed p x).backward =
    x.backward ∧ (shapeSpeed p x).poweroff = x.poweroff ∧ (shapeSpeed p x).cause = x.cause ∧ (shapeSpeed p x).alert
    = x.alert ∧ (shapeSpeed p x).inactCnt = x.inactCnt ∧ (shapeSpeed p x).tickCnt = x.tickCnt ∧ (shapeSpeed p
    x).fbStrobe = x.fbStrobe ∧ (shapeSpeed p x).ponState = x.ponState ∧ (shapeSpeed p x).ponTimer = x.ponTimer ∧
    (shapeSpeed p x).ponTaps = x.ponTaps ∧ (shapeSpeed p x).ponPress = x.ponPress ∧ (shapeSpeed p x).errCause =
    x.errCause ∧ (shapeSpeed p x).errWord = x.errWord := by
  refine ⟨?_, ?_, ?_, ?_, ?_, ?_, ?_, ?_, ?_, ?_, ?_, ?_, ?_, ?_, ?_, ?_, ?_, ?_, ?_, ?_, ?_, ?_, ?_, ?_, ?_, ?_, ?_, ?_, ?_, ?_, ?_, ?_, ?_, ?_, ?_, ?_, ?_, ?_⟩ <;> rfl

/-- `shapeTemp` writes only `tempFilt`. -/
@[simp] theorem shapeTemp_keeps (p : Params) :
    (shapeTemp p x).cmdSteer = x.cmdSteer ∧ (shapeTemp p x).cmdSpeed = x.cmdSpeed ∧ (shapeTemp p x).rsSteer =
    x.rsSteer ∧ (shapeTemp p x).rsSpeed = x.rsSpeed ∧ (shapeTemp p x).accSteer = x.accSteer ∧ (shapeTemp p
    x).accSpeed = x.accSpeed ∧ (shapeTemp p x).accTemp = x.accTemp ∧ (shapeTemp p x).steer = x.steer ∧ (shapeTemp p
    x).speed = x.speed ∧ (shapeTemp p x).motL = x.motL ∧ (shapeTemp p x).motR = x.motR ∧ (shapeTemp p x).outL =
    x.outL ∧ (shapeTemp p x).outR = x.outR ∧ (shapeTemp p x).sdc = x.sdc ∧ (shapeTemp p x).spdL = x.spdL ∧
    (shapeTemp p x).spdR = x.spdR ∧ (shapeTemp p x).speedAvg = x.speedAvg ∧ (shapeTemp p x).speedAvgAbs =
    x.speedAvgAbs ∧ (shapeTemp p x).speedBlend = x.speedBlend ∧ (shapeTemp p x).tempRaw = x.tempRaw ∧ (shapeTemp p
    x).bat = x.bat ∧ (shapeTemp p x).faultL = x.faultL ∧ (shapeTemp p x).faultR = x.faultR ∧ (shapeTemp p x).flagsIn
    = x.flagsIn ∧ (shapeTemp p x).enable = x.enable ∧ (shapeTemp p x).backward = x.backward ∧ (shapeTemp p
    x).poweroff = x.poweroff ∧ (shapeTemp p x).cause = x.cause ∧ (shapeTemp p x).alert = x.alert ∧ (shapeTemp p
    x).inactCnt = x.inactCnt ∧ (shapeTemp p x).tickCnt = x.tickCnt ∧ (shapeTemp p x).fbStrobe = x.fbStrobe ∧
    (shapeTemp p x).ponState = x.ponState ∧ (shapeTemp p x).ponTimer = x.ponTimer ∧ (shapeTemp p x).ponTaps =
    x.ponTaps ∧ (shapeTemp p x).ponPress = x.ponPress ∧ (shapeTemp p x).errCause = x.errCause ∧ (shapeTemp p
    x).errWord = x.errWord := by
  refine ⟨?_, ?_, ?_, ?_, ?_, ?_, ?_, ?_, ?_, ?_, ?_, ?_, ?_, ?_, ?_, ?_, ?_, ?_, ?_, ?_, ?_, ?_, ?_, ?_, ?_, ?_, ?_, ?_, ?_, ?_, ?_, ?_, ?_, ?_, ?_, ?_, ?_, ?_⟩ <;> rfl

/-- `blendSpeed` writes only `speedAvg`, `speedAvgAbs`, `speedBlend`. -/
@[simp] theorem blendSpeed_keeps (p : Params) :
    (blendSpeed p x).cmdSteer = x.cmdSteer ∧ (blendSpeed p x).cmdSpeed = x.cmdSpeed ∧ (blendSpeed p x).rsSteer =
    x.rsSteer ∧ (blendSpeed p x).rsSpeed = x.rsSpeed ∧ (blendSpeed p x).accSteer = x.accSteer ∧ (blendSpeed p
    x).accSpeed = x.accSpeed ∧ (blendSpeed p x).accTemp = x.accTemp ∧ (blendSpeed p x).steer = x.steer ∧ (blendSpeed
    p x).speed = x.speed ∧ (blendSpeed p x).motL = x.motL ∧ (blendSpeed p x).motR = x.motR ∧ (blendSpeed p x).outL =
    x.outL ∧ (blendSpeed p x).outR = x.outR ∧ (blendSpeed p x).sdc = x.sdc ∧ (blendSpeed p x).spdL = x.spdL ∧
    (blendSpeed p x).spdR = x.spdR ∧ (blendSpeed p x).tempRaw = x.tempRaw ∧ (blendSpeed p x).tempFilt = x.tempFilt ∧
    (blendSpeed p x).bat = x.bat ∧ (blendSpeed p x).faultL = x.faultL ∧ (blendSpeed p x).faultR = x.faultR ∧
    (blendSpeed p x).flagsIn = x.flagsIn ∧ (blendSpeed p x).enable = x.enable ∧ (blendSpeed p x).backward =
    x.backward ∧ (blendSpeed p x).poweroff = x.poweroff ∧ (blendSpeed p x).cause = x.cause ∧ (blendSpeed p x).alert
    = x.alert ∧ (blendSpeed p x).inactCnt = x.inactCnt ∧ (blendSpeed p x).tickCnt = x.tickCnt ∧ (blendSpeed p
    x).fbStrobe = x.fbStrobe ∧ (blendSpeed p x).ponState = x.ponState ∧ (blendSpeed p x).ponTimer = x.ponTimer ∧
    (blendSpeed p x).ponTaps = x.ponTaps ∧ (blendSpeed p x).ponPress = x.ponPress ∧ (blendSpeed p x).errCause =
    x.errCause ∧ (blendSpeed p x).errWord = x.errWord := by
  refine ⟨?_, ?_, ?_, ?_, ?_, ?_, ?_, ?_, ?_, ?_, ?_, ?_, ?_, ?_, ?_, ?_, ?_, ?_, ?_, ?_, ?_, ?_, ?_, ?_, ?_, ?_, ?_, ?_, ?_, ?_, ?_, ?_, ?_, ?_, ?_, ?_⟩ <;> rfl

/-- `derateSpeed` writes only `speed`. -/
@[simp] theorem derateSpeed_keeps :
    (derateSpeed x).cmdSteer = x.cmdSteer ∧ (derateSpeed x).cmdSpeed = x.cmdSpeed ∧ (derateSpeed x).rsSteer =
    x.rsSteer ∧ (derateSpeed x).rsSpeed = x.rsSpeed ∧ (derateSpeed x).accSteer = x.accSteer ∧ (derateSpeed
    x).accSpeed = x.accSpeed ∧ (derateSpeed x).accTemp = x.accTemp ∧ (derateSpeed x).steer = x.steer ∧ (derateSpeed
    x).motL = x.motL ∧ (derateSpeed x).motR = x.motR ∧ (derateSpeed x).outL = x.outL ∧ (derateSpeed x).outR = x.outR
    ∧ (derateSpeed x).sdc = x.sdc ∧ (derateSpeed x).spdL = x.spdL ∧ (derateSpeed x).spdR = x.spdR ∧ (derateSpeed
    x).speedAvg = x.speedAvg ∧ (derateSpeed x).speedAvgAbs = x.speedAvgAbs ∧ (derateSpeed x).speedBlend =
    x.speedBlend ∧ (derateSpeed x).tempRaw = x.tempRaw ∧ (derateSpeed x).tempFilt = x.tempFilt ∧ (derateSpeed x).bat
    = x.bat ∧ (derateSpeed x).faultL = x.faultL ∧ (derateSpeed x).faultR = x.faultR ∧ (derateSpeed x).flagsIn =
    x.flagsIn ∧ (derateSpeed x).enable = x.enable ∧ (derateSpeed x).backward = x.backward ∧ (derateSpeed x).poweroff
    = x.poweroff ∧ (derateSpeed x).cause = x.cause ∧ (derateSpeed x).alert = x.alert ∧ (derateSpeed x).inactCnt =
    x.inactCnt ∧ (derateSpeed x).tickCnt = x.tickCnt ∧ (derateSpeed x).fbStrobe = x.fbStrobe ∧ (derateSpeed
    x).ponState = x.ponState ∧ (derateSpeed x).ponTimer = x.ponTimer ∧ (derateSpeed x).ponTaps = x.ponTaps ∧
    (derateSpeed x).ponPress = x.ponPress ∧ (derateSpeed x).errCause = x.errCause ∧ (derateSpeed x).errWord =
    x.errWord := by
  refine ⟨?_, ?_, ?_, ?_, ?_, ?_, ?_, ?_, ?_, ?_, ?_, ?_, ?_, ?_, ?_, ?_, ?_, ?_, ?_, ?_, ?_, ?_, ?_, ?_, ?_, ?_, ?_, ?_, ?_, ?_, ?_, ?_, ?_, ?_, ?_, ?_, ?_, ?_⟩ <;> rfl

/-- `brakeSpeed` writes only `speed`. -/
@[simp] theorem brakeSpeed_keeps :
    (brakeSpeed x).cmdSteer = x.cmdSteer ∧ (brakeSpeed x).cmdSpeed = x.cmdSpeed ∧ (brakeSpeed x).rsSteer = x.rsSteer
    ∧ (brakeSpeed x).rsSpeed = x.rsSpeed ∧ (brakeSpeed x).accSteer = x.accSteer ∧ (brakeSpeed x).accSpeed =
    x.accSpeed ∧ (brakeSpeed x).accTemp = x.accTemp ∧ (brakeSpeed x).steer = x.steer ∧ (brakeSpeed x).motL = x.motL
    ∧ (brakeSpeed x).motR = x.motR ∧ (brakeSpeed x).outL = x.outL ∧ (brakeSpeed x).outR = x.outR ∧ (brakeSpeed
    x).sdc = x.sdc ∧ (brakeSpeed x).spdL = x.spdL ∧ (brakeSpeed x).spdR = x.spdR ∧ (brakeSpeed x).speedAvg =
    x.speedAvg ∧ (brakeSpeed x).speedAvgAbs = x.speedAvgAbs ∧ (brakeSpeed x).speedBlend = x.speedBlend ∧ (brakeSpeed
    x).tempRaw = x.tempRaw ∧ (brakeSpeed x).tempFilt = x.tempFilt ∧ (brakeSpeed x).bat = x.bat ∧ (brakeSpeed
    x).faultL = x.faultL ∧ (brakeSpeed x).faultR = x.faultR ∧ (brakeSpeed x).flagsIn = x.flagsIn ∧ (brakeSpeed
    x).enable = x.enable ∧ (brakeSpeed x).backward = x.backward ∧ (brakeSpeed x).poweroff = x.poweroff ∧ (brakeSpeed
    x).cause = x.cause ∧ (brakeSpeed x).alert = x.alert ∧ (brakeSpeed x).inactCnt = x.inactCnt ∧ (brakeSpeed
    x).tickCnt = x.tickCnt ∧ (brakeSpeed x).fbStrobe = x.fbStrobe ∧ (brakeSpeed x).ponState = x.ponState ∧
    (brakeSpeed x).ponTimer = x.ponTimer ∧ (brakeSpeed x).ponTaps = x.ponTaps ∧ (brakeSpeed x).ponPress = x.ponPress
    ∧ (brakeSpeed x).errCause = x.errCause ∧ (brakeSpeed x).errWord = x.errWord := by
  refine ⟨?_, ?_, ?_, ?_, ?_, ?_, ?_, ?_, ?_, ?_, ?_, ?_, ?_, ?_, ?_, ?_, ?_, ?_, ?_, ?_, ?_, ?_, ?_, ?_, ?_, ?_, ?_, ?_, ?_, ?_, ?_, ?_, ?_, ?_, ?_, ?_, ?_, ?_⟩ <;>
    (unfold brakeSpeed; split <;> rfl)

/-- `brakeIfBuilt` writes only `speed`. -/
@[simp] theorem brakeIfBuilt_keeps (p : Params) :
    (brakeIfBuilt p x).cmdSteer = x.cmdSteer ∧ (brakeIfBuilt p x).cmdSpeed = x.cmdSpeed ∧ (brakeIfBuilt p x).rsSteer
    = x.rsSteer ∧ (brakeIfBuilt p x).rsSpeed = x.rsSpeed ∧ (brakeIfBuilt p x).accSteer = x.accSteer ∧ (brakeIfBuilt
    p x).accSpeed = x.accSpeed ∧ (brakeIfBuilt p x).accTemp = x.accTemp ∧ (brakeIfBuilt p x).steer = x.steer ∧
    (brakeIfBuilt p x).motL = x.motL ∧ (brakeIfBuilt p x).motR = x.motR ∧ (brakeIfBuilt p x).outL = x.outL ∧
    (brakeIfBuilt p x).outR = x.outR ∧ (brakeIfBuilt p x).sdc = x.sdc ∧ (brakeIfBuilt p x).spdL = x.spdL ∧
    (brakeIfBuilt p x).spdR = x.spdR ∧ (brakeIfBuilt p x).speedAvg = x.speedAvg ∧ (brakeIfBuilt p x).speedAvgAbs =
    x.speedAvgAbs ∧ (brakeIfBuilt p x).speedBlend = x.speedBlend ∧ (brakeIfBuilt p x).tempRaw = x.tempRaw ∧
    (brakeIfBuilt p x).tempFilt = x.tempFilt ∧ (brakeIfBuilt p x).bat = x.bat ∧ (brakeIfBuilt p x).faultL = x.faultL
    ∧ (brakeIfBuilt p x).faultR = x.faultR ∧ (brakeIfBuilt p x).flagsIn = x.flagsIn ∧ (brakeIfBuilt p x).enable =
    x.enable ∧ (brakeIfBuilt p x).backward = x.backward ∧ (brakeIfBuilt p x).poweroff = x.poweroff ∧ (brakeIfBuilt p
    x).cause = x.cause ∧ (brakeIfBuilt p x).alert = x.alert ∧ (brakeIfBuilt p x).inactCnt = x.inactCnt ∧
    (brakeIfBuilt p x).tickCnt = x.tickCnt ∧ (brakeIfBuilt p x).fbStrobe = x.fbStrobe ∧ (brakeIfBuilt p x).ponState
    = x.ponState ∧ (brakeIfBuilt p x).ponTimer = x.ponTimer ∧ (brakeIfBuilt p x).ponTaps = x.ponTaps ∧ (brakeIfBuilt
    p x).ponPress = x.ponPress ∧ (brakeIfBuilt p x).errCause = x.errCause ∧ (brakeIfBuilt p x).errWord = x.errWord := by
  unfold brakeIfBuilt; split <;> simp

/-- `mixCommands` writes only `motL`, `motR`. -/
@[simp] theorem mixCommands_keeps (p : Params) :
    (mixCommands p x).cmdSteer = x.cmdSteer ∧ (mixCommands p x).cmdSpeed = x.cmdSpeed ∧ (mixCommands p x).rsSteer =
    x.rsSteer ∧ (mixCommands p x).rsSpeed = x.rsSpeed ∧ (mixCommands p x).accSteer = x.accSteer ∧ (mixCommands p
    x).accSpeed = x.accSpeed ∧ (mixCommands p x).accTemp = x.accTemp ∧ (mixCommands p x).steer = x.steer ∧
    (mixCommands p x).speed = x.speed ∧ (mixCommands p x).outL = x.outL ∧ (mixCommands p x).outR = x.outR ∧
    (mixCommands p x).sdc = x.sdc ∧ (mixCommands p x).spdL = x.spdL ∧ (mixCommands p x).spdR = x.spdR ∧ (mixCommands
    p x).speedAvg = x.speedAvg ∧ (mixCommands p x).speedAvgAbs = x.speedAvgAbs ∧ (mixCommands p x).speedBlend =
    x.speedBlend ∧ (mixCommands p x).tempRaw = x.tempRaw ∧ (mixCommands p x).tempFilt = x.tempFilt ∧ (mixCommands p
    x).bat = x.bat ∧ (mixCommands p x).faultL = x.faultL ∧ (mixCommands p x).faultR = x.faultR ∧ (mixCommands p
    x).flagsIn = x.flagsIn ∧ (mixCommands p x).enable = x.enable ∧ (mixCommands p x).backward = x.backward ∧
    (mixCommands p x).poweroff = x.poweroff ∧ (mixCommands p x).cause = x.cause ∧ (mixCommands p x).alert = x.alert
    ∧ (mixCommands p x).inactCnt = x.inactCnt ∧ (mixCommands p x).tickCnt = x.tickCnt ∧ (mixCommands p x).fbStrobe =
    x.fbStrobe ∧ (mixCommands p x).ponState = x.ponState ∧ (mixCommands p x).ponTimer = x.ponTimer ∧ (mixCommands p
    x).ponTaps = x.ponTaps ∧ (mixCommands p x).ponPress = x.ponPress ∧ (mixCommands p x).errCause = x.errCause ∧
    (mixCommands p x).errWord = x.errWord := by
  refine ⟨?_, ?_, ?_, ?_, ?_, ?_, ?_, ?_, ?_, ?_, ?_, ?_, ?_, ?_, ?_, ?_, ?_, ?_, ?_, ?_, ?_, ?_, ?_, ?_, ?_, ?_, ?_, ?_, ?_, ?_, ?_, ?_, ?_, ?_, ?_, ?_, ?_⟩ <;> rfl

/-- `assignOutputs` writes only `outL`, `outR`. -/
@[simp] theorem assignOutputs_keeps (p : Params) :
    (assignOutputs p x).cmdSteer = x.cmdSteer ∧ (assignOutputs p x).cmdSpeed = x.cmdSpeed ∧ (assignOutputs p
    x).rsSteer = x.rsSteer ∧ (assignOutputs p x).rsSpeed = x.rsSpeed ∧ (assignOutputs p x).accSteer = x.accSteer ∧
    (assignOutputs p x).accSpeed = x.accSpeed ∧ (assignOutputs p x).accTemp = x.accTemp ∧ (assignOutputs p x).steer
    = x.steer ∧ (assignOutputs p x).speed = x.speed ∧ (assignOutputs p x).motL = x.motL ∧ (assignOutputs p x).motR =
    x.motR ∧ (assignOutputs p x).sdc = x.sdc ∧ (assignOutputs p x).spdL = x.spdL ∧ (assignOutputs p x).spdR = x.spdR
    ∧ (assignOutputs p x).speedAvg = x.speedAvg ∧ (assignOutputs p x).speedAvgAbs = x.speedAvgAbs ∧ (assignOutputs p
    x).speedBlend = x.speedBlend ∧ (assignOutputs p x).tempRaw = x.tempRaw ∧ (assignOutputs p x).tempFilt =
    x.tempFilt ∧ (assignOutputs p x).bat = x.bat ∧ (assignOutputs p x).faultL = x.faultL ∧ (assignOutputs p
    x).faultR = x.faultR ∧ (assignOutputs p x).flagsIn = x.flagsIn ∧ (assignOutputs p x).enable = x.enable ∧
    (assignOutputs p x).backward = x.backward ∧ (assignOutputs p x).poweroff = x.poweroff ∧ (assignOutputs p
    x).cause = x.cause ∧ (assignOutputs p x).alert = x.alert ∧ (assignOutputs p x).inactCnt = x.inactCnt ∧
    (assignOutputs p x).tickCnt = x.tickCnt ∧ (assignOutputs p x).fbStrobe = x.fbStrobe ∧ (assignOutputs p
    x).ponState = x.ponState ∧ (assignOutputs p x).ponTimer = x.ponTimer ∧ (assignOutputs p x).ponTaps = x.ponTaps ∧
    (assignOutputs p x).ponPress = x.ponPress ∧ (assignOutputs p x).errCause = x.errCause ∧ (assignOutputs p
    x).errWord = x.errWord := by
  refine ⟨?_, ?_, ?_, ?_, ?_, ?_, ?_, ?_, ?_, ?_, ?_, ?_, ?_, ?_, ?_, ?_, ?_, ?_, ?_, ?_, ?_, ?_, ?_, ?_, ?_, ?_, ?_, ?_, ?_, ?_, ?_, ?_, ?_, ?_, ?_, ?_, ?_⟩ <;> rfl

/-- `slowDown` writes only `sdc`. -/
@[simp] theorem slowDown_keeps (p : Params) :
    (slowDown p x).cmdSteer = x.cmdSteer ∧ (slowDown p x).cmdSpeed = x.cmdSpeed ∧ (slowDown p x).rsSteer = x.rsSteer
    ∧ (slowDown p x).rsSpeed = x.rsSpeed ∧ (slowDown p x).accSteer = x.accSteer ∧ (slowDown p x).accSpeed =
    x.accSpeed ∧ (slowDown p x).accTemp = x.accTemp ∧ (slowDown p x).steer = x.steer ∧ (slowDown p x).speed =
    x.speed ∧ (slowDown p x).motL = x.motL ∧ (slowDown p x).motR = x.motR ∧ (slowDown p x).outL = x.outL ∧ (slowDown
    p x).outR = x.outR ∧ (slowDown p x).spdL = x.spdL ∧ (slowDown p x).spdR = x.spdR ∧ (slowDown p x).speedAvg =
    x.speedAvg ∧ (slowDown p x).speedAvgAbs = x.speedAvgAbs ∧ (slowDown p x).speedBlend = x.speedBlend ∧ (slowDown p
    x).tempRaw = x.tempRaw ∧ (slowDown p x).tempFilt = x.tempFilt ∧ (slowDown p x).bat = x.bat ∧ (slowDown p
    x).faultL = x.faultL ∧ (slowDown p x).faultR = x.faultR ∧ (slowDown p x).flagsIn = x.flagsIn ∧ (slowDown p
    x).enable = x.enable ∧ (slowDown p x).backward = x.backward ∧ (slowDown p x).poweroff = x.poweroff ∧ (slowDown p
    x).cause = x.cause ∧ (slowDown p x).alert = x.alert ∧ (slowDown p x).inactCnt = x.inactCnt ∧ (slowDown p
    x).tickCnt = x.tickCnt ∧ (slowDown p x).fbStrobe = x.fbStrobe ∧ (slowDown p x).ponState = x.ponState ∧ (slowDown
    p x).ponTimer = x.ponTimer ∧ (slowDown p x).ponTaps = x.ponTaps ∧ (slowDown p x).ponPress = x.ponPress ∧
    (slowDown p x).errCause = x.errCause ∧ (slowDown p x).errWord = x.errWord := by
  refine ⟨?_, ?_, ?_, ?_, ?_, ?_, ?_, ?_, ?_, ?_, ?_, ?_, ?_, ?_, ?_, ?_, ?_, ?_, ?_, ?_, ?_, ?_, ?_, ?_, ?_, ?_, ?_, ?_, ?_, ?_, ?_, ?_, ?_, ?_, ?_, ?_, ?_, ?_⟩ <;> rfl

/-- `stopOrSlow` writes only `sdc`, `poweroff`. -/
@[simp] theorem stopOrSlow_keeps (p : Params) :
    (stopOrSlow p x).cmdSteer = x.cmdSteer ∧ (stopOrSlow p x).cmdSpeed = x.cmdSpeed ∧ (stopOrSlow p x).rsSteer =
    x.rsSteer ∧ (stopOrSlow p x).rsSpeed = x.rsSpeed ∧ (stopOrSlow p x).accSteer = x.accSteer ∧ (stopOrSlow p
    x).accSpeed = x.accSpeed ∧ (stopOrSlow p x).accTemp = x.accTemp ∧ (stopOrSlow p x).steer = x.steer ∧ (stopOrSlow
    p x).speed = x.speed ∧ (stopOrSlow p x).motL = x.motL ∧ (stopOrSlow p x).motR = x.motR ∧ (stopOrSlow p x).outL =
    x.outL ∧ (stopOrSlow p x).outR = x.outR ∧ (stopOrSlow p x).spdL = x.spdL ∧ (stopOrSlow p x).spdR = x.spdR ∧
    (stopOrSlow p x).speedAvg = x.speedAvg ∧ (stopOrSlow p x).speedAvgAbs = x.speedAvgAbs ∧ (stopOrSlow p
    x).speedBlend = x.speedBlend ∧ (stopOrSlow p x).tempRaw = x.tempRaw ∧ (stopOrSlow p x).tempFilt = x.tempFilt ∧
    (stopOrSlow p x).bat = x.bat ∧ (stopOrSlow p x).faultL = x.faultL ∧ (stopOrSlow p x).faultR = x.faultR ∧
    (stopOrSlow p x).flagsIn = x.flagsIn ∧ (stopOrSlow p x).enable = x.enable ∧ (stopOrSlow p x).backward =
    x.backward ∧ (stopOrSlow p x).cause = x.cause ∧ (stopOrSlow p x).alert = x.alert ∧ (stopOrSlow p x).inactCnt =
    x.inactCnt ∧ (stopOrSlow p x).tickCnt = x.tickCnt ∧ (stopOrSlow p x).fbStrobe = x.fbStrobe ∧ (stopOrSlow p
    x).ponState = x.ponState ∧ (stopOrSlow p x).ponTimer = x.ponTimer ∧ (stopOrSlow p x).ponTaps = x.ponTaps ∧
    (stopOrSlow p x).ponPress = x.ponPress ∧ (stopOrSlow p x).errCause = x.errCause ∧ (stopOrSlow p x).errWord =
    x.errWord := by
  refine ⟨?_, ?_, ?_, ?_, ?_, ?_, ?_, ?_, ?_, ?_, ?_, ?_, ?_, ?_, ?_, ?_, ?_, ?_, ?_, ?_, ?_, ?_, ?_, ?_, ?_, ?_, ?_, ?_, ?_, ?_, ?_, ?_, ?_, ?_, ?_, ?_, ?_⟩ <;>
    (unfold stopOrSlow; split <;> rfl)

/-- `ruleAction` writes only `sdc`, `poweroff`, `enable`, `backward`. -/
@[simp] theorem ruleAction_keeps (p : Params) (r : SafetyRule) :
    (ruleAction p x r).cmdSteer = x.cmdSteer ∧ (ruleAction p x r).cmdSpeed = x.cmdSpeed ∧ (ruleAction p x r).rsSteer
    = x.rsSteer ∧ (ruleAction p x r).rsSpeed = x.rsSpeed ∧ (ruleAction p x r).accSteer = x.accSteer ∧ (ruleAction p
    x r).accSpeed = x.accSpeed ∧ (ruleAction p x r).accTemp = x.accTemp ∧ (ruleAction p x r).steer = x.steer ∧
    (ruleAction p x r).speed = x.speed ∧ (ruleAction p x r).motL = x.motL ∧ (ruleAction p x r).motR = x.motR ∧
    (ruleAction p x r).outL = x.outL ∧ (ruleAction p x r).outR = x.outR ∧ (ruleAction p x r).spdL = x.spdL ∧
    (ruleAction p x r).spdR = x.spdR ∧ (ruleAction p x r).speedAvg = x.speedAvg ∧ (ruleAction p x r).speedAvgAbs =
    x.speedAvgAbs ∧ (ruleAction p x r).speedBlend = x.speedBlend ∧ (ruleAction p x r).tempRaw = x.tempRaw ∧
    (ruleAction p x r).tempFilt = x.tempFilt ∧ (ruleAction p x r).bat = x.bat ∧ (ruleAction p x r).faultL = x.faultL
    ∧ (ruleAction p x r).faultR = x.faultR ∧ (ruleAction p x r).flagsIn = x.flagsIn ∧ (ruleAction p x r).cause =
    x.cause ∧ (ruleAction p x r).alert = x.alert ∧ (ruleAction p x r).inactCnt = x.inactCnt ∧ (ruleAction p x
    r).tickCnt = x.tickCnt ∧ (ruleAction p x r).fbStrobe = x.fbStrobe ∧ (ruleAction p x r).ponState = x.ponState ∧
    (ruleAction p x r).ponTimer = x.ponTimer ∧ (ruleAction p x r).ponTaps = x.ponTaps ∧ (ruleAction p x r).ponPress
    = x.ponPress ∧ (ruleAction p x r).errCause = x.errCause ∧ (ruleAction p x r).errWord = x.errWord := by
  cases r <;> simp [ruleAction]

/-- `arbitrate` writes only `sdc`, `poweroff`, `enable`, `backward`, `cause`, `alert`. -/
@[simp] theorem arbitrate_keeps (p : Params) :
    (arbitrate p x).cmdSteer = x.cmdSteer ∧ (arbitrate p x).cmdSpeed = x.cmdSpeed ∧ (arbitrate p x).rsSteer =
    x.rsSteer ∧ (arbitrate p x).rsSpeed = x.rsSpeed ∧ (arbitrate p x).accSteer = x.accSteer ∧ (arbitrate p
    x).accSpeed = x.accSpeed ∧ (arbitrate p x).accTemp = x.accTemp ∧ (arbitrate p x).steer = x.steer ∧ (arbitrate p
    x).speed = x.speed ∧ (arbitrate p x).motL = x.motL ∧ (arbitrate p x).motR = x.motR ∧ (arbitrate p x).outL =
    x.outL ∧ (arbitrate p x).outR = x.outR ∧ (arbitrate p x).spdL = x.spdL ∧ (arbitrate p x).spdR = x.spdR ∧
    (arbitrate p x).speedAvg = x.speedAvg ∧ (arbitrate p x).speedAvgAbs = x.speedAvgAbs ∧ (arbitrate p x).speedBlend
    = x.speedBlend ∧ (arbitrate p x).tempRaw = x.tempRaw ∧ (arbitrate p x).tempFilt = x.tempFilt ∧ (arbitrate p
    x).bat = x.bat ∧ (arbitrate p x).faultL = x.faultL ∧ (arbitrate p x).faultR = x.faultR ∧ (arbitrate p x).flagsIn
    = x.flagsIn ∧ (arbitrate p x).inactCnt = x.inactCnt ∧ (arbitrate p x).tickCnt = x.tickCnt ∧ (arbitrate p
    x).fbStrobe = x.fbStrobe ∧ (arbitrate p x).ponState = x.ponState ∧ (arbitrate p x).ponTimer = x.ponTimer ∧
    (arbitrate p x).ponTaps = x.ponTaps ∧ (arbitrate p x).ponPress = x.ponPress ∧ (arbitrate p x).errCause =
    x.errCause ∧ (arbitrate p x).errWord = x.errWord := by
  simp [arbitrate]

/-- `transition` writes only `enable`, `alert`, `accSteer`, `accSpeed`. -/
@[simp] theorem transition_keeps (p : Params) :
    (transition p x).cmdSteer = x.cmdSteer ∧ (transition p x).cmdSpeed = x.cmdSpeed ∧ (transition p x).rsSteer =
    x.rsSteer ∧ (transition p x).rsSpeed = x.rsSpeed ∧ (transition p x).accTemp = x.accTemp ∧ (transition p x).steer
    = x.steer ∧ (transition p x).speed = x.speed ∧ (transition p x).motL = x.motL ∧ (transition p x).motR = x.motR ∧
    (transition p x).outL = x.outL ∧ (transition p x).outR = x.outR ∧ (transition p x).sdc = x.sdc ∧ (transition p
    x).spdL = x.spdL ∧ (transition p x).spdR = x.spdR ∧ (transition p x).speedAvg = x.speedAvg ∧ (transition p
    x).speedAvgAbs = x.speedAvgAbs ∧ (transition p x).speedBlend = x.speedBlend ∧ (transition p x).tempRaw =
    x.tempRaw ∧ (transition p x).tempFilt = x.tempFilt ∧ (transition p x).bat = x.bat ∧ (transition p x).faultL =
    x.faultL ∧ (transition p x).faultR = x.faultR ∧ (transition p x).flagsIn = x.flagsIn ∧ (transition p x).backward
    = x.backward ∧ (transition p x).poweroff = x.poweroff ∧ (transition p x).cause = x.cause ∧ (transition p
    x).inactCnt = x.inactCnt ∧ (transition p x).tickCnt = x.tickCnt ∧ (transition p x).fbStrobe = x.fbStrobe ∧
    (transition p x).ponState = x.ponState ∧ (transition p x).ponTimer = x.ponTimer ∧ (transition p x).ponTaps =
    x.ponTaps ∧ (transition p x).ponPress = x.ponPress ∧ (transition p x).errCause = x.errCause ∧ (transition p
    x).errWord = x.errWord := by
  refine ⟨?_, ?_, ?_, ?_, ?_, ?_, ?_, ?_, ?_, ?_, ?_, ?_, ?_, ?_, ?_, ?_, ?_, ?_, ?_, ?_, ?_, ?_, ?_, ?_, ?_, ?_, ?_, ?_, ?_, ?_, ?_, ?_, ?_, ?_, ?_⟩ <;>
    (unfold transition; split <;> rfl)

/-- `checkInactivity` writes only `inactCnt`, `poweroff`. -/
@[simp] theorem checkInactivity_keeps (p : Params) :
    (checkInactivity p x).cmdSteer = x.cmdSteer ∧ (checkInactivity p x).cmdSpeed = x.cmdSpeed ∧ (checkInactivity p
    x).rsSteer = x.rsSteer ∧ (checkInactivity p x).rsSpeed = x.rsSpeed ∧ (checkInactivity p x).accSteer = x.accSteer
    ∧ (checkInactivity p x).accSpeed = x.accSpeed ∧ (checkInactivity p x).accTemp = x.accTemp ∧ (checkInactivity p
    x).steer = x.steer ∧ (checkInactivity p x).speed = x.speed ∧ (checkInactivity p x).motL = x.motL ∧
    (checkInactivity p x).motR = x.motR ∧ (checkInactivity p x).outL = x.outL ∧ (checkInactivity p x).outR = x.outR
    ∧ (checkInactivity p x).sdc = x.sdc ∧ (checkInactivity p x).spdL = x.spdL ∧ (checkInactivity p x).spdR = x.spdR
    ∧ (checkInactivity p x).speedAvg = x.speedAvg ∧ (checkInactivity p x).speedAvgAbs = x.speedAvgAbs ∧
    (checkInactivity p x).speedBlend = x.speedBlend ∧ (checkInactivity p x).tempRaw = x.tempRaw ∧ (checkInactivity p
    x).tempFilt = x.tempFilt ∧ (checkInactivity p x).bat = x.bat ∧ (checkInactivity p x).faultL = x.faultL ∧
    (checkInactivity p x).faultR = x.faultR ∧ (checkInactivity p x).flagsIn = x.flagsIn ∧ (checkInactivity p
    x).enable = x.enable ∧ (checkInactivity p x).backward = x.backward ∧ (checkInactivity p x).cause = x.cause ∧
    (checkInactivity p x).alert = x.alert ∧ (checkInactivity p x).tickCnt = x.tickCnt ∧ (checkInactivity p
    x).fbStrobe = x.fbStrobe ∧ (checkInactivity p x).ponState = x.ponState ∧ (checkInactivity p x).ponTimer =
    x.ponTimer ∧ (checkInactivity p x).ponTaps = x.ponTaps ∧ (checkInactivity p x).ponPress = x.ponPress ∧
    (checkInactivity p x).errCause = x.errCause ∧ (checkInactivity p x).errWord = x.errWord := by
  refine ⟨?_, ?_, ?_, ?_, ?_, ?_, ?_, ?_, ?_, ?_, ?_, ?_, ?_, ?_, ?_, ?_, ?_, ?_, ?_, ?_, ?_, ?_, ?_, ?_, ?_, ?_, ?_, ?_, ?_, ?_, ?_, ?_, ?_, ?_, ?_, ?_, ?_⟩ <;> rfl

/-- `strobeFeedback` writes only `tickCnt`, `fbStrobe`. -/
@[simp] theorem strobeFeedback_keeps (p : Params) :
    (strobeFeedback p x).cmdSteer = x.cmdSteer ∧ (strobeFeedback p x).cmdSpeed = x.cmdSpeed ∧ (strobeFeedback p
    x).rsSteer = x.rsSteer ∧ (strobeFeedback p x).rsSpeed = x.rsSpeed ∧ (strobeFeedback p x).accSteer = x.accSteer ∧
    (strobeFeedback p x).accSpeed = x.accSpeed ∧ (strobeFeedback p x).accTemp = x.accTemp ∧ (strobeFeedback p
    x).steer = x.steer ∧ (strobeFeedback p x).speed = x.speed ∧ (strobeFeedback p x).motL = x.motL ∧ (strobeFeedback
    p x).motR = x.motR ∧ (strobeFeedback p x).outL = x.outL ∧ (strobeFeedback p x).outR = x.outR ∧ (strobeFeedback p
    x).sdc = x.sdc ∧ (strobeFeedback p x).spdL = x.spdL ∧ (strobeFeedback p x).spdR = x.spdR ∧ (strobeFeedback p
    x).speedAvg = x.speedAvg ∧ (strobeFeedback p x).speedAvgAbs = x.speedAvgAbs ∧ (strobeFeedback p x).speedBlend =
    x.speedBlend ∧ (strobeFeedback p x).tempRaw = x.tempRaw ∧ (strobeFeedback p x).tempFilt = x.tempFilt ∧
    (strobeFeedback p x).bat = x.bat ∧ (strobeFeedback p x).faultL = x.faultL ∧ (strobeFeedback p x).faultR =
    x.faultR ∧ (strobeFeedback p x).flagsIn = x.flagsIn ∧ (strobeFeedback p x).enable = x.enable ∧ (strobeFeedback p
    x).backward = x.backward ∧ (strobeFeedback p x).poweroff = x.poweroff ∧ (strobeFeedback p x).cause = x.cause ∧
    (strobeFeedback p x).alert = x.alert ∧ (strobeFeedback p x).inactCnt = x.inactCnt ∧ (strobeFeedback p
    x).ponState = x.ponState ∧ (strobeFeedback p x).ponTimer = x.ponTimer ∧ (strobeFeedback p x).ponTaps = x.ponTaps
    ∧ (strobeFeedback p x).ponPress = x.ponPress ∧ (strobeFeedback p x).errCause = x.errCause ∧ (strobeFeedback p
    x).errWord = x.errWord := by
  refine ⟨?_, ?_, ?_, ?_, ?_, ?_, ?_, ?_, ?_, ?_, ?_, ?_, ?_, ?_, ?_, ?_, ?_, ?_, ?_, ?_, ?_, ?_, ?_, ?_, ?_, ?_, ?_, ?_, ?_, ?_, ?_, ?_, ?_, ?_, ?_, ?_, ?_⟩ <;> rfl

/-- `latch` writes only `cmdSteer`, `cmdSpeed`, `spdL`, `spdR`, `tempRaw`, `bat`, `faultL`, `faultR`, `flagsIn`. -/
@[simp] theorem latch_keeps (v : Sample) :
    (latch v x).rsSteer = x.rsSteer ∧ (latch v x).rsSpeed = x.rsSpeed ∧ (latch v x).accSteer = x.accSteer ∧ (latch v
    x).accSpeed = x.accSpeed ∧ (latch v x).accTemp = x.accTemp ∧ (latch v x).steer = x.steer ∧ (latch v x).speed =
    x.speed ∧ (latch v x).motL = x.motL ∧ (latch v x).motR = x.motR ∧ (latch v x).outL = x.outL ∧ (latch v x).outR =
    x.outR ∧ (latch v x).sdc = x.sdc ∧ (latch v x).speedAvg = x.speedAvg ∧ (latch v x).speedAvgAbs = x.speedAvgAbs ∧
    (latch v x).speedBlend = x.speedBlend ∧ (latch v x).tempFilt = x.tempFilt ∧ (latch v x).enable = x.enable ∧
    (latch v x).backward = x.backward ∧ (latch v x).poweroff = x.poweroff ∧ (latch v x).cause = x.cause ∧ (latch v
    x).alert = x.alert ∧ (latch v x).inactCnt = x.inactCnt ∧ (latch v x).tickCnt = x.tickCnt ∧ (latch v x).fbStrobe
    = x.fbStrobe ∧ (latch v x).ponState = x.ponState ∧ (latch v x).ponTimer = x.ponTimer ∧ (latch v x).ponTaps =
    x.ponTaps ∧ (latch v x).ponPress = x.ponPress ∧ (latch v x).errCause = x.errCause ∧ (latch v x).errWord =
    x.errWord := by
  refine ⟨?_, ?_, ?_, ?_, ?_, ?_, ?_, ?_, ?_, ?_, ?_, ?_, ?_, ?_, ?_, ?_, ?_, ?_, ?_, ?_, ?_, ?_, ?_, ?_, ?_, ?_, ?_, ?_, ?_, ?_⟩ <;> rfl

/-- `ponEnter` writes only `ponState`, `ponTimer`, `ponTaps`, `ponPress`. -/
@[simp] theorem ponEnter_keeps (n : BitVec 3) :
    (ponEnter n x).cmdSteer = x.cmdSteer ∧ (ponEnter n x).cmdSpeed = x.cmdSpeed ∧ (ponEnter n x).rsSteer = x.rsSteer
    ∧ (ponEnter n x).rsSpeed = x.rsSpeed ∧ (ponEnter n x).accSteer = x.accSteer ∧ (ponEnter n x).accSpeed =
    x.accSpeed ∧ (ponEnter n x).accTemp = x.accTemp ∧ (ponEnter n x).steer = x.steer ∧ (ponEnter n x).speed =
    x.speed ∧ (ponEnter n x).motL = x.motL ∧ (ponEnter n x).motR = x.motR ∧ (ponEnter n x).outL = x.outL ∧ (ponEnter
    n x).outR = x.outR ∧ (ponEnter n x).sdc = x.sdc ∧ (ponEnter n x).spdL = x.spdL ∧ (ponEnter n x).spdR = x.spdR ∧
    (ponEnter n x).speedAvg = x.speedAvg ∧ (ponEnter n x).speedAvgAbs = x.speedAvgAbs ∧ (ponEnter n x).speedBlend =
    x.speedBlend ∧ (ponEnter n x).tempRaw = x.tempRaw ∧ (ponEnter n x).tempFilt = x.tempFilt ∧ (ponEnter n x).bat =
    x.bat ∧ (ponEnter n x).faultL = x.faultL ∧ (ponEnter n x).faultR = x.faultR ∧ (ponEnter n x).flagsIn = x.flagsIn
    ∧ (ponEnter n x).enable = x.enable ∧ (ponEnter n x).backward = x.backward ∧ (ponEnter n x).poweroff = x.poweroff
    ∧ (ponEnter n x).cause = x.cause ∧ (ponEnter n x).alert = x.alert ∧ (ponEnter n x).inactCnt = x.inactCnt ∧
    (ponEnter n x).tickCnt = x.tickCnt ∧ (ponEnter n x).fbStrobe = x.fbStrobe ∧ (ponEnter n x).errCause = x.errCause
    ∧ (ponEnter n x).errWord = x.errWord := by
  refine ⟨?_, ?_, ?_, ?_, ?_, ?_, ?_, ?_, ?_, ?_, ?_, ?_, ?_, ?_, ?_, ?_, ?_, ?_, ?_, ?_, ?_, ?_, ?_, ?_, ?_, ?_, ?_, ?_, ?_, ?_, ?_, ?_, ?_, ?_, ?_⟩ <;> rfl

/-- `toRun` writes only `ponState`, `ponTimer`, `ponTaps`, `ponPress`. -/
@[simp] theorem toRun_keeps :
    (toRun x).cmdSteer = x.cmdSteer ∧ (toRun x).cmdSpeed = x.cmdSpeed ∧ (toRun x).rsSteer = x.rsSteer ∧ (toRun
    x).rsSpeed = x.rsSpeed ∧ (toRun x).accSteer = x.accSteer ∧ (toRun x).accSpeed = x.accSpeed ∧ (toRun x).accTemp =
    x.accTemp ∧ (toRun x).steer = x.steer ∧ (toRun x).speed = x.speed ∧ (toRun x).motL = x.motL ∧ (toRun x).motR =
    x.motR ∧ (toRun x).outL = x.outL ∧ (toRun x).outR = x.outR ∧ (toRun x).sdc = x.sdc ∧ (toRun x).spdL = x.spdL ∧
    (toRun x).spdR = x.spdR ∧ (toRun x).speedAvg = x.speedAvg ∧ (toRun x).speedAvgAbs = x.speedAvgAbs ∧ (toRun
    x).speedBlend = x.speedBlend ∧ (toRun x).tempRaw = x.tempRaw ∧ (toRun x).tempFilt = x.tempFilt ∧ (toRun x).bat =
    x.bat ∧ (toRun x).faultL = x.faultL ∧ (toRun x).faultR = x.faultR ∧ (toRun x).flagsIn = x.flagsIn ∧ (toRun
    x).enable = x.enable ∧ (toRun x).backward = x.backward ∧ (toRun x).poweroff = x.poweroff ∧ (toRun x).cause =
    x.cause ∧ (toRun x).alert = x.alert ∧ (toRun x).inactCnt = x.inactCnt ∧ (toRun x).tickCnt = x.tickCnt ∧ (toRun
    x).fbStrobe = x.fbStrobe ∧ (toRun x).errCause = x.errCause ∧ (toRun x).errWord = x.errWord := by
  refine ⟨?_, ?_, ?_, ?_, ?_, ?_, ?_, ?_, ?_, ?_, ?_, ?_, ?_, ?_, ?_, ?_, ?_, ?_, ?_, ?_, ?_, ?_, ?_, ?_, ?_, ?_, ?_, ?_, ?_, ?_, ?_, ?_, ?_, ?_, ?_⟩ <;> rfl

/-- `toCalWindow` writes only `ponState`, `ponTimer`, `ponPress`. -/
@[simp] theorem toCalWindow_keeps :
    (toCalWindow x).cmdSteer = x.cmdSteer ∧ (toCalWindow x).cmdSpeed = x.cmdSpeed ∧ (toCalWindow x).rsSteer =
    x.rsSteer ∧ (toCalWindow x).rsSpeed = x.rsSpeed ∧ (toCalWindow x).accSteer = x.accSteer ∧ (toCalWindow
    x).accSpeed = x.accSpeed ∧ (toCalWindow x).accTemp = x.accTemp ∧ (toCalWindow x).steer = x.steer ∧
    (toCalWindow x).speed = x.speed ∧ (toCalWindow x).motL = x.motL ∧ (toCalWindow x).motR = x.motR ∧ (toCalWindow
    x).outL = x.outL ∧ (toCalWindow x).outR = x.outR ∧ (toCalWindow x).sdc = x.sdc ∧ (toCalWindow x).spdL = x.spdL
    ∧ (toCalWindow x).spdR = x.spdR ∧ (toCalWindow x).speedAvg = x.speedAvg ∧ (toCalWindow x).speedAvgAbs =
    x.speedAvgAbs ∧ (toCalWindow x).speedBlend = x.speedBlend ∧ (toCalWindow x).tempRaw = x.tempRaw ∧ (toCalWindow
    x).tempFilt = x.tempFilt ∧ (toCalWindow x).bat = x.bat ∧ (toCalWindow x).faultL = x.faultL ∧ (toCalWindow
    x).faultR = x.faultR ∧ (toCalWindow x).flagsIn = x.flagsIn ∧ (toCalWindow x).enable = x.enable ∧ (toCalWindow
    x).backward = x.backward ∧ (toCalWindow x).poweroff = x.poweroff ∧ (toCalWindow x).cause = x.cause ∧
    (toCalWindow x).alert = x.alert ∧ (toCalWindow x).inactCnt = x.inactCnt ∧ (toCalWindow x).tickCnt = x.tickCnt
    ∧ (toCalWindow x).fbStrobe = x.fbStrobe ∧ (toCalWindow x).ponTaps = x.ponTaps ∧ (toCalWindow x).errCause =
    x.errCause ∧ (toCalWindow x).errWord = x.errWord := by
  refine ⟨?_, ?_, ?_, ?_, ?_, ?_, ?_, ?_, ?_, ?_, ?_, ?_, ?_, ?_, ?_, ?_, ?_, ?_, ?_, ?_, ?_, ?_, ?_, ?_, ?_, ?_, ?_, ?_, ?_, ?_, ?_, ?_, ?_, ?_, ?_, ?_⟩ <;> rfl

/-- `ponWaitRelease` writes only `ponState`, `ponTimer`, `ponTaps`, `ponPress`. -/
@[simp] theorem ponWaitRelease_keeps (p : Params) :
    (ponWaitRelease p x).cmdSteer = x.cmdSteer ∧ (ponWaitRelease p x).cmdSpeed = x.cmdSpeed ∧ (ponWaitRelease p
    x).rsSteer = x.rsSteer ∧ (ponWaitRelease p x).rsSpeed = x.rsSpeed ∧ (ponWaitRelease p x).accSteer = x.accSteer ∧
    (ponWaitRelease p x).accSpeed = x.accSpeed ∧ (ponWaitRelease p x).accTemp = x.accTemp ∧ (ponWaitRelease p
    x).steer = x.steer ∧ (ponWaitRelease p x).speed = x.speed ∧ (ponWaitRelease p x).motL = x.motL ∧ (ponWaitRelease
    p x).motR = x.motR ∧ (ponWaitRelease p x).outL = x.outL ∧ (ponWaitRelease p x).outR = x.outR ∧ (ponWaitRelease p
    x).sdc = x.sdc ∧ (ponWaitRelease p x).spdL = x.spdL ∧ (ponWaitRelease p x).spdR = x.spdR ∧ (ponWaitRelease p
    x).speedAvg = x.speedAvg ∧ (ponWaitRelease p x).speedAvgAbs = x.speedAvgAbs ∧ (ponWaitRelease p x).speedBlend =
    x.speedBlend ∧ (ponWaitRelease p x).tempRaw = x.tempRaw ∧ (ponWaitRelease p x).tempFilt = x.tempFilt ∧
    (ponWaitRelease p x).bat = x.bat ∧ (ponWaitRelease p x).faultL = x.faultL ∧ (ponWaitRelease p x).faultR =
    x.faultR ∧ (ponWaitRelease p x).flagsIn = x.flagsIn ∧ (ponWaitRelease p x).enable = x.enable ∧ (ponWaitRelease p
    x).backward = x.backward ∧ (ponWaitRelease p x).poweroff = x.poweroff ∧ (ponWaitRelease p x).cause = x.cause ∧
    (ponWaitRelease p x).alert = x.alert ∧ (ponWaitRelease p x).inactCnt = x.inactCnt ∧ (ponWaitRelease p x).tickCnt
    = x.tickCnt ∧ (ponWaitRelease p x).fbStrobe = x.fbStrobe ∧ (ponWaitRelease p x).errCause = x.errCause ∧
    (ponWaitRelease p x).errWord = x.errWord := by
  refine ⟨?_, ?_, ?_, ?_, ?_, ?_, ?_, ?_, ?_, ?_, ?_, ?_, ?_, ?_, ?_, ?_, ?_, ?_, ?_, ?_, ?_, ?_, ?_, ?_, ?_, ?_, ?_, ?_, ?_, ?_, ?_, ?_, ?_, ?_, ?_⟩ <;>
    (unfold ponWaitRelease; repeat (first | rfl | split))

/-- `ponTapButton` writes only `ponState`, `ponTimer`, `ponTaps`, `ponPress`. -/
@[simp] theorem ponTapButton_keeps (p : Params) :
    (ponTapButton p x).cmdSteer = x.cmdSteer ∧ (ponTapButton p x).cmdSpeed = x.cmdSpeed ∧ (ponTapButton p
    x).rsSteer = x.rsSteer ∧ (ponTapButton p x).rsSpeed = x.rsSpeed ∧ (ponTapButton p x).accSteer = x.accSteer ∧
    (ponTapButton p x).accSpeed = x.accSpeed ∧ (ponTapButton p x).accTemp = x.accTemp ∧ (ponTapButton p
    x).steer = x.steer ∧ (ponTapButton p x).speed = x.speed ∧ (ponTapButton p x).motL = x.motL ∧ (ponTapButton p
    x).motR = x.motR ∧ (ponTapButton p x).outL = x.outL ∧ (ponTapButton p x).outR = x.outR ∧ (ponTapButton p
    x).sdc = x.sdc ∧ (ponTapButton p x).spdL = x.spdL ∧ (ponTapButton p x).spdR = x.spdR ∧ (ponTapButton p
    x).speedAvg = x.speedAvg ∧ (ponTapButton p x).speedAvgAbs = x.speedAvgAbs ∧ (ponTapButton p x).speedBlend =
    x.speedBlend ∧ (ponTapButton p x).tempRaw = x.tempRaw ∧ (ponTapButton p x).tempFilt = x.tempFilt ∧
    (ponTapButton p x).bat = x.bat ∧ (ponTapButton p x).faultL = x.faultL ∧ (ponTapButton p x).faultR =
    x.faultR ∧ (ponTapButton p x).flagsIn = x.flagsIn ∧ (ponTapButton p x).enable = x.enable ∧ (ponTapButton p
    x).backward = x.backward ∧ (ponTapButton p x).poweroff = x.poweroff ∧ (ponTapButton p x).cause = x.cause ∧
    (ponTapButton p x).alert = x.alert ∧ (ponTapButton p x).inactCnt = x.inactCnt ∧ (ponTapButton p x).tickCnt
    = x.tickCnt ∧ (ponTapButton p x).fbStrobe = x.fbStrobe ∧ (ponTapButton p x).errCause = x.errCause ∧
    (ponTapButton p x).errWord = x.errWord := by
  refine ⟨?_, ?_, ?_, ?_, ?_, ?_, ?_, ?_, ?_, ?_, ?_, ?_, ?_, ?_, ?_, ?_, ?_, ?_, ?_, ?_, ?_, ?_, ?_, ?_, ?_, ?_, ?_, ?_, ?_, ?_, ?_, ?_, ?_, ?_, ?_⟩ <;>
    (unfold ponTapButton; repeat (first | rfl | split))

/-- `ponTapDecide` writes only `ponState`, `ponTimer`, `ponTaps`, `ponPress`. -/
@[simp] theorem ponTapDecide_keeps (p : Params) :
    (ponTapDecide p x).cmdSteer = x.cmdSteer ∧ (ponTapDecide p x).cmdSpeed = x.cmdSpeed ∧ (ponTapDecide p x).rsSteer
    = x.rsSteer ∧ (ponTapDecide p x).rsSpeed = x.rsSpeed ∧ (ponTapDecide p x).accSteer = x.accSteer ∧ (ponTapDecide
    p x).accSpeed = x.accSpeed ∧ (ponTapDecide p x).accTemp = x.accTemp ∧ (ponTapDecide p x).steer = x.steer ∧
    (ponTapDecide p x).speed = x.speed ∧ (ponTapDecide p x).motL = x.motL ∧ (ponTapDecide p x).motR = x.motR ∧
    (ponTapDecide p x).outL = x.outL ∧ (ponTapDecide p x).outR = x.outR ∧ (ponTapDecide p x).sdc = x.sdc ∧
    (ponTapDecide p x).spdL = x.spdL ∧ (ponTapDecide p x).spdR = x.spdR ∧ (ponTapDecide p x).speedAvg = x.speedAvg ∧
    (ponTapDecide p x).speedAvgAbs = x.speedAvgAbs ∧ (ponTapDecide p x).speedBlend = x.speedBlend ∧ (ponTapDecide p
    x).tempRaw = x.tempRaw ∧ (ponTapDecide p x).tempFilt = x.tempFilt ∧ (ponTapDecide p x).bat = x.bat ∧
    (ponTapDecide p x).faultL = x.faultL ∧ (ponTapDecide p x).faultR = x.faultR ∧ (ponTapDecide p x).flagsIn =
    x.flagsIn ∧ (ponTapDecide p x).enable = x.enable ∧ (ponTapDecide p x).backward = x.backward ∧ (ponTapDecide p
    x).poweroff = x.poweroff ∧ (ponTapDecide p x).cause = x.cause ∧ (ponTapDecide p x).alert = x.alert ∧
    (ponTapDecide p x).inactCnt = x.inactCnt ∧ (ponTapDecide p x).tickCnt = x.tickCnt ∧ (ponTapDecide p x).fbStrobe
    = x.fbStrobe ∧ (ponTapDecide p x).errCause = x.errCause ∧ (ponTapDecide p x).errWord = x.errWord := by
  refine ⟨?_, ?_, ?_, ?_, ?_, ?_, ?_, ?_, ?_, ?_, ?_, ?_, ?_, ?_, ?_, ?_, ?_, ?_, ?_, ?_, ?_, ?_, ?_, ?_, ?_, ?_, ?_, ?_, ?_, ?_, ?_, ?_, ?_, ?_, ?_⟩ <;>
    (unfold ponTapDecide; repeat (first | rfl | split))

/-- `ponTapDetect` writes only `ponState`, `ponTimer`, `ponTaps`, `ponPress`. -/
@[simp] theorem ponTapDetect_keeps (p : Params) :
    (ponTapDetect p x).cmdSteer = x.cmdSteer ∧ (ponTapDetect p x).cmdSpeed = x.cmdSpeed ∧ (ponTapDetect p
    x).rsSteer = x.rsSteer ∧ (ponTapDetect p x).rsSpeed = x.rsSpeed ∧ (ponTapDetect p x).accSteer = x.accSteer ∧
    (ponTapDetect p x).accSpeed = x.accSpeed ∧ (ponTapDetect p x).accTemp = x.accTemp ∧ (ponTapDetect p
    x).steer = x.steer ∧ (ponTapDetect p x).speed = x.speed ∧ (ponTapDetect p x).motL = x.motL ∧ (ponTapDetect p
    x).motR = x.motR ∧ (ponTapDetect p x).outL = x.outL ∧ (ponTapDetect p x).outR = x.outR ∧ (ponTapDetect p
    x).sdc = x.sdc ∧ (ponTapDetect p x).spdL = x.spdL ∧ (ponTapDetect p x).spdR = x.spdR ∧ (ponTapDetect p
    x).speedAvg = x.speedAvg ∧ (ponTapDetect p x).speedAvgAbs = x.speedAvgAbs ∧ (ponTapDetect p x).speedBlend =
    x.speedBlend ∧ (ponTapDetect p x).tempRaw = x.tempRaw ∧ (ponTapDetect p x).tempFilt = x.tempFilt ∧
    (ponTapDetect p x).bat = x.bat ∧ (ponTapDetect p x).faultL = x.faultL ∧ (ponTapDetect p x).faultR =
    x.faultR ∧ (ponTapDetect p x).flagsIn = x.flagsIn ∧ (ponTapDetect p x).enable = x.enable ∧ (ponTapDetect p
    x).backward = x.backward ∧ (ponTapDetect p x).poweroff = x.poweroff ∧ (ponTapDetect p x).cause = x.cause ∧
    (ponTapDetect p x).alert = x.alert ∧ (ponTapDetect p x).inactCnt = x.inactCnt ∧ (ponTapDetect p x).tickCnt
    = x.tickCnt ∧ (ponTapDetect p x).fbStrobe = x.fbStrobe ∧ (ponTapDetect p x).errCause = x.errCause ∧
    (ponTapDetect p x).errWord = x.errWord := by
  simp only [ponTapDetect]; split
  · simp
  · split <;> simp

/-- `ponCalWindow` writes only `ponState`, `ponTimer`, `ponTaps`, `ponPress`. -/
@[simp] theorem ponCalWindow_keeps (p : Params) :
    (ponCalWindow p x).cmdSteer = x.cmdSteer ∧ (ponCalWindow p x).cmdSpeed = x.cmdSpeed ∧ (ponCalWindow p x).rsSteer
    = x.rsSteer ∧ (ponCalWindow p x).rsSpeed = x.rsSpeed ∧ (ponCalWindow p x).accSteer = x.accSteer ∧ (ponCalWindow
    p x).accSpeed = x.accSpeed ∧ (ponCalWindow p x).accTemp = x.accTemp ∧ (ponCalWindow p x).steer = x.steer ∧
    (ponCalWindow p x).speed = x.speed ∧ (ponCalWindow p x).motL = x.motL ∧ (ponCalWindow p x).motR = x.motR ∧
    (ponCalWindow p x).outL = x.outL ∧ (ponCalWindow p x).outR = x.outR ∧ (ponCalWindow p x).sdc = x.sdc ∧
    (ponCalWindow p x).spdL = x.spdL ∧ (ponCalWindow p x).spdR = x.spdR ∧ (ponCalWindow p x).speedAvg = x.speedAvg ∧
    (ponCalWindow p x).speedAvgAbs = x.speedAvgAbs ∧ (ponCalWindow p x).speedBlend = x.speedBlend ∧ (ponCalWindow p
    x).tempRaw = x.tempRaw ∧ (ponCalWindow p x).tempFilt = x.tempFilt ∧ (ponCalWindow p x).bat = x.bat ∧
    (ponCalWindow p x).faultL = x.faultL ∧ (ponCalWindow p x).faultR = x.faultR ∧ (ponCalWindow p x).flagsIn =
    x.flagsIn ∧ (ponCalWindow p x).enable = x.enable ∧ (ponCalWindow p x).backward = x.backward ∧ (ponCalWindow p
    x).poweroff = x.poweroff ∧ (ponCalWindow p x).cause = x.cause ∧ (ponCalWindow p x).alert = x.alert ∧
    (ponCalWindow p x).inactCnt = x.inactCnt ∧ (ponCalWindow p x).tickCnt = x.tickCnt ∧ (ponCalWindow p x).fbStrobe
    = x.fbStrobe ∧ (ponCalWindow p x).errCause = x.errCause ∧ (ponCalWindow p x).errWord = x.errWord := by
  refine ⟨?_, ?_, ?_, ?_, ?_, ?_, ?_, ?_, ?_, ?_, ?_, ?_, ?_, ?_, ?_, ?_, ?_, ?_, ?_, ?_, ?_, ?_, ?_, ?_, ?_, ?_, ?_, ?_, ?_, ?_, ?_, ?_, ?_, ?_, ?_⟩ <;>
    (simp only [ponCalWindow]; repeat (first | rfl | split))

/-- `ponCalActive` writes only `ponState`, `ponTimer`, `ponTaps`, `ponPress`. -/
@[simp] theorem ponCalActive_keeps :
    (ponCalActive x).cmdSteer = x.cmdSteer ∧ (ponCalActive x).cmdSpeed = x.cmdSpeed ∧ (ponCalActive x).rsSteer =
    x.rsSteer ∧ (ponCalActive x).rsSpeed = x.rsSpeed ∧ (ponCalActive x).accSteer = x.accSteer ∧ (ponCalActive
    x).accSpeed = x.accSpeed ∧ (ponCalActive x).accTemp = x.accTemp ∧ (ponCalActive x).steer = x.steer ∧
    (ponCalActive x).speed = x.speed ∧ (ponCalActive x).motL = x.motL ∧ (ponCalActive x).motR = x.motR ∧
    (ponCalActive x).outL = x.outL ∧ (ponCalActive x).outR = x.outR ∧ (ponCalActive x).sdc = x.sdc ∧ (ponCalActive
    x).spdL = x.spdL ∧ (ponCalActive x).spdR = x.spdR ∧ (ponCalActive x).speedAvg = x.speedAvg ∧ (ponCalActive
    x).speedAvgAbs = x.speedAvgAbs ∧ (ponCalActive x).speedBlend = x.speedBlend ∧ (ponCalActive x).tempRaw =
    x.tempRaw ∧ (ponCalActive x).tempFilt = x.tempFilt ∧ (ponCalActive x).bat = x.bat ∧ (ponCalActive x).faultL =
    x.faultL ∧ (ponCalActive x).faultR = x.faultR ∧ (ponCalActive x).flagsIn = x.flagsIn ∧ (ponCalActive x).enable =
    x.enable ∧ (ponCalActive x).backward = x.backward ∧ (ponCalActive x).poweroff = x.poweroff ∧ (ponCalActive
    x).cause = x.cause ∧ (ponCalActive x).alert = x.alert ∧ (ponCalActive x).inactCnt = x.inactCnt ∧ (ponCalActive
    x).tickCnt = x.tickCnt ∧ (ponCalActive x).fbStrobe = x.fbStrobe ∧ (ponCalActive x).errCause = x.errCause ∧
    (ponCalActive x).errWord = x.errWord := by
  refine ⟨?_, ?_, ?_, ?_, ?_, ?_, ?_, ?_, ?_, ?_, ?_, ?_, ?_, ?_, ?_, ?_, ?_, ?_, ?_, ?_, ?_, ?_, ?_, ?_, ?_, ?_, ?_, ?_, ?_, ?_, ?_, ?_, ?_, ?_, ?_⟩ <;>
    (unfold ponCalActive; split <;> rfl)

/-- `ponPoll` writes only `ponState`, `ponTimer`, `ponTaps`, `ponPress`. -/
@[simp] theorem ponPoll_keeps (p : Params) :
    (ponPoll p x).cmdSteer = x.cmdSteer ∧ (ponPoll p x).cmdSpeed = x.cmdSpeed ∧ (ponPoll p x).rsSteer =
    x.rsSteer ∧ (ponPoll p x).rsSpeed = x.rsSpeed ∧ (ponPoll p x).accSteer = x.accSteer ∧ (ponPoll p
    x).accSpeed = x.accSpeed ∧ (ponPoll p x).accTemp = x.accTemp ∧ (ponPoll p x).steer = x.steer ∧ (ponPoll p
    x).speed = x.speed ∧ (ponPoll p x).motL = x.motL ∧ (ponPoll p x).motR = x.motR ∧ (ponPoll p x).outL =
    x.outL ∧ (ponPoll p x).outR = x.outR ∧ (ponPoll p x).sdc = x.sdc ∧ (ponPoll p x).spdL = x.spdL ∧ (ponPoll
    p x).spdR = x.spdR ∧ (ponPoll p x).speedAvg = x.speedAvg ∧ (ponPoll p x).speedAvgAbs = x.speedAvgAbs ∧
    (ponPoll p x).speedBlend = x.speedBlend ∧ (ponPoll p x).tempRaw = x.tempRaw ∧ (ponPoll p x).tempFilt =
    x.tempFilt ∧ (ponPoll p x).bat = x.bat ∧ (ponPoll p x).faultL = x.faultL ∧ (ponPoll p x).faultR = x.faultR
    ∧ (ponPoll p x).flagsIn = x.flagsIn ∧ (ponPoll p x).enable = x.enable ∧ (ponPoll p x).backward =
    x.backward ∧ (ponPoll p x).poweroff = x.poweroff ∧ (ponPoll p x).cause = x.cause ∧ (ponPoll p x).alert =
    x.alert ∧ (ponPoll p x).inactCnt = x.inactCnt ∧ (ponPoll p x).tickCnt = x.tickCnt ∧ (ponPoll p x).fbStrobe
    = x.fbStrobe ∧ (ponPoll p x).errCause = x.errCause ∧ (ponPoll p x).errWord = x.errWord := by
  unfold ponPoll; split <;> simp

/-- `shapingStages` writes only `speedAvg`, `speedAvgAbs`, `speedBlend`, `rsSteer`, `rsSpeed`, `accSteer`, `accSpeed`, `steer`, `speed`. -/
@[simp] theorem shapingStages_keeps (p : Params) :
    (shapingStages p x).cmdSteer = x.cmdSteer ∧ (shapingStages p x).cmdSpeed = x.cmdSpeed ∧ (shapingStages p
    x).accTemp = x.accTemp ∧ (shapingStages p x).motL = x.motL ∧ (shapingStages p x).motR = x.motR ∧ (shapingStages
    p x).outL = x.outL ∧ (shapingStages p x).outR = x.outR ∧ (shapingStages p x).sdc = x.sdc ∧ (shapingStages p
    x).spdL = x.spdL ∧ (shapingStages p x).spdR = x.spdR ∧ (shapingStages p x).tempRaw = x.tempRaw ∧ (shapingStages
    p x).tempFilt = x.tempFilt ∧ (shapingStages p x).bat = x.bat ∧ (shapingStages p x).faultL = x.faultL ∧
    (shapingStages p x).faultR = x.faultR ∧ (shapingStages p x).flagsIn = x.flagsIn ∧ (shapingStages p x).enable =
    x.enable ∧ (shapingStages p x).backward = x.backward ∧ (shapingStages p x).poweroff = x.poweroff ∧
    (shapingStages p x).cause = x.cause ∧ (shapingStages p x).alert = x.alert ∧ (shapingStages p x).inactCnt =
    x.inactCnt ∧ (shapingStages p x).tickCnt = x.tickCnt ∧ (shapingStages p x).fbStrobe = x.fbStrobe ∧
    (shapingStages p x).ponState = x.ponState ∧ (shapingStages p x).ponTimer = x.ponTimer ∧ (shapingStages p
    x).ponTaps = x.ponTaps ∧ (shapingStages p x).ponPress = x.ponPress ∧ (shapingStages p x).errCause = x.errCause ∧
    (shapingStages p x).errWord = x.errWord := by
  simp [shapingStages]

/-- `outputStages` writes only `motL`, `motR`, `outL`, `outR`, `accTemp`, `tempFilt`. -/
@[simp] theorem outputStages_keeps (p : Params) :
    (outputStages p x).cmdSteer = x.cmdSteer ∧ (outputStages p x).cmdSpeed = x.cmdSpeed ∧ (outputStages p x).rsSteer
    = x.rsSteer ∧ (outputStages p x).rsSpeed = x.rsSpeed ∧ (outputStages p x).accSteer = x.accSteer ∧ (outputStages
    p x).accSpeed = x.accSpeed ∧ (outputStages p x).steer = x.steer ∧ (outputStages p x).speed = x.speed ∧
    (outputStages p x).sdc = x.sdc ∧ (outputStages p x).spdL = x.spdL ∧ (outputStages p x).spdR = x.spdR ∧
    (outputStages p x).speedAvg = x.speedAvg ∧ (outputStages p x).speedAvgAbs = x.speedAvgAbs ∧ (outputStages p
    x).speedBlend = x.speedBlend ∧ (outputStages p x).tempRaw = x.tempRaw ∧ (outputStages p x).bat = x.bat ∧
    (outputStages p x).faultL = x.faultL ∧ (outputStages p x).faultR = x.faultR ∧ (outputStages p x).flagsIn =
    x.flagsIn ∧ (outputStages p x).enable = x.enable ∧ (outputStages p x).backward = x.backward ∧ (outputStages p
    x).poweroff = x.poweroff ∧ (outputStages p x).cause = x.cause ∧ (outputStages p x).alert = x.alert ∧
    (outputStages p x).inactCnt = x.inactCnt ∧ (outputStages p x).tickCnt = x.tickCnt ∧ (outputStages p x).fbStrobe
    = x.fbStrobe ∧ (outputStages p x).ponState = x.ponState ∧ (outputStages p x).ponTimer = x.ponTimer ∧
    (outputStages p x).ponTaps = x.ponTaps ∧ (outputStages p x).ponPress = x.ponPress ∧ (outputStages p x).errCause
    = x.errCause ∧ (outputStages p x).errWord = x.errWord := by
  simp [outputStages]

/-- `safetyStages` writes only `sdc`, `poweroff`, `enable`, `backward`, `cause`, `alert`, `accSteer`, `accSpeed`, `inactCnt`, `tickCnt`, `fbStrobe`. -/
@[simp] theorem safetyStages_keeps (p : Params) :
    (safetyStages p x).cmdSteer = x.cmdSteer ∧ (safetyStages p x).cmdSpeed = x.cmdSpeed ∧ (safetyStages p x).rsSteer
    = x.rsSteer ∧ (safetyStages p x).rsSpeed = x.rsSpeed ∧ (safetyStages p x).accTemp = x.accTemp ∧ (safetyStages p
    x).steer = x.steer ∧ (safetyStages p x).speed = x.speed ∧ (safetyStages p x).motL = x.motL ∧ (safetyStages p
    x).motR = x.motR ∧ (safetyStages p x).outL = x.outL ∧ (safetyStages p x).outR = x.outR ∧ (safetyStages p x).spdL
    = x.spdL ∧ (safetyStages p x).spdR = x.spdR ∧ (safetyStages p x).speedAvg = x.speedAvg ∧ (safetyStages p
    x).speedAvgAbs = x.speedAvgAbs ∧ (safetyStages p x).speedBlend = x.speedBlend ∧ (safetyStages p x).tempRaw =
    x.tempRaw ∧ (safetyStages p x).tempFilt = x.tempFilt ∧ (safetyStages p x).bat = x.bat ∧ (safetyStages p
    x).faultL = x.faultL ∧ (safetyStages p x).faultR = x.faultR ∧ (safetyStages p x).flagsIn = x.flagsIn ∧
    (safetyStages p x).ponState = x.ponState ∧ (safetyStages p x).ponTimer = x.ponTimer ∧ (safetyStages p x).ponTaps
    = x.ponTaps ∧ (safetyStages p x).ponPress = x.ponPress ∧ (safetyStages p x).errCause = x.errCause ∧
    (safetyStages p x).errWord = x.errWord := by
  simp [safetyStages]

end Sys2Proof.Machine
end

