-- ==== Sys2Proof/Laws/Frames.lean ====
section
/-! SUPPORT. Each stage as ONE record update: what it writes, and so all that it leaves alone. A stage defined by cases is
given here as an update whose values are conditional, so that simp reads any register off it. -/

namespace Sys2Proof.Machine

variable (p : Params) (x : Regs)

theorem recordError_eq (e : CmdError) (w : Word) : recordError e w x =
    { x with
      errCause := if x.errCause = 0#4 then errorCode e else x.errCause
      errWord := if x.errCause = 0#4 then w else x.errWord } := by
  unfold recordError; split <;> rfl

theorem brakeSpeed_eq : brakeSpeed x =
    { x with speed := if brakeRequested x then store 32 (satS32 (brakeCommand x)) else x.speed } := by
  unfold brakeSpeed; split <;> rfl

theorem brakeIfBuilt_eq : brakeIfBuilt p x =
    { x with speed := if p.ebrakeEn then (brakeSpeed x).speed else x.speed } := by
  unfold brakeIfBuilt; rw [brakeSpeed_eq]; split <;> rfl

theorem stopOrSlow_eq : stopOrSlow p x =
    { x with
      poweroff := if lowSpeed p x then 1#1 else x.poweroff
      sdc := if lowSpeed p x then x.sdc else slowedDown p x } := by
  unfold stopOrSlow; split <;> rfl

/-- Rules 1 and 2 of the list share one action (R141). -/
def stops : SafetyRule → Bool
  | .overTemp => true
  | .batDead => true
  | _ => false

theorem ruleAction_eq (r : SafetyRule) : ruleAction p x r =
    { x with
      poweroff := if stops r ∧ lowSpeed p x then 1#1 else x.poweroff
      sdc := if stops r ∧ lowSpeed p x = false then slowedDown p x else x.sdc
      enable := if r = .motorFault then 0#1 else x.enable
      backward := if r = .backMotion then 1#1 else if r = .nominal then 0#1 else x.backward } := by
  cases r <;> simp [ruleAction, stops, stopOrSlow_eq] <;> cases lowSpeed p x <;> rfl

theorem arbitrate_eq : arbitrate p x =
    { x with
      cause := ruleNumber (winningRule p x)
      alert := alertWord p (rulePattern (winningRule p x))
      poweroff := if stops (winningRule p x) ∧ lowSpeed p x then 1#1 else x.poweroff
      sdc := if stops (winningRule p x) ∧ lowSpeed p x = false then slowedDown p x else x.sdc
      enable := if winningRule p x = .motorFault then 0#1 else x.enable
      backward := if winningRule p x = .backMotion then 1#1 else if winningRule p x = .nominal then 0#1 else x.backward } := by
  rw [arbitrate, ruleAction_eq]

/-- XITION's condition (R150). -/
def transitionDue : Prop := flagEnReq x ≠ x.enable ∧ interlockHolds p x = true

theorem transition_of_due (h : transitionDue p x) : transition p x =
    { x with
      enable := flagEnReq x
      alert := alertWord p .transition
      accSteer := if flagEnReq x = 1#1 then 0#32 else x.accSteer
      accSpeed := if flagEnReq x = 1#1 then 0#32 else x.accSpeed } := if_pos h

theorem transition_of_not_due (h : ¬ transitionDue p x) : transition p x = x := if_neg h

theorem transition_frame : transition p x =
    { x with
      enable := (transition p x).enable
      alert := (transition p x).alert
      accSteer := (transition p x).accSteer
      accSpeed := (transition p x).accSpeed } := by
  by_cases h : transitionDue p x
  · rw [transition_of_due p x h]
  · rw [transition_of_not_due p x h]

theorem shapingStages_frame : shapingStages p x =
    { x with
      speedAvg := (blendSpeed p x).speedAvg
      speedAvgAbs := (blendSpeed p x).speedAvgAbs
      speedBlend := (blendSpeed p x).speedBlend
      rsSteer := (rateLimitSteer p.rate x).rsSteer
      rsSpeed := (rateLimitSpeed p.rate x).rsSpeed
      accSteer := (shapingStages p x).accSteer
      accSpeed := (shapingStages p x).accSpeed
      steer := (shapingStages p x).steer
      speed := (shapingStages p x).speed } := by
  apply Regs.ext <;> simp [shapingStages] <;> simp [rateLimitSteer, rateLimitSpeed]

theorem outputStages_frame : outputStages p x =
    { x with
      motL := (mixCommands p x).motL
      motR := (mixCommands p x).motR
      outL := (assignOutputs p (mixCommands p x)).outL
      outR := (assignOutputs p (mixCommands p x)).outR
      accTemp := (filterTemp p.tempCoef p x).accTemp
      tempFilt := (outputStages p x).tempFilt } := by
  apply Regs.ext <;> simp [outputStages, filterTemp]

theorem safetyStages_eq : safetyStages p x =
    { transition p (arbitrate p x) with
      inactCnt := (checkInactivity p x).inactCnt
      poweroff := (checkInactivity p (arbitrate p x)).poweroff
      tickCnt := (strobeFeedback p x).tickCnt
      fbStrobe := (strobeFeedback p x).fbStrobe } := by
  apply Regs.ext <;> simp [safetyStages] <;>
    simp [checkInactivity, strobeFeedback, inactiveCount, inactiveNow]

theorem ponWaitRelease_frame : ponWaitRelease p x =
    { x with
      ponState := (ponWaitRelease p x).ponState
      ponTimer := (ponWaitRelease p x).ponTimer
      ponTaps := (ponWaitRelease p x).ponTaps
      ponPress := (ponWaitRelease p x).ponPress } := by
  unfold ponWaitRelease; split
  · split <;> rfl
  · rfl

theorem ponTapDetect_frame : ponTapDetect p x =
    { x with
      ponState := (ponTapDetect p x).ponState
      ponTimer := (ponTapDetect p x).ponTimer
      ponTaps := (ponTapDetect p x).ponTaps
      ponPress := (ponTapDetect p x).ponPress } := by
  apply Regs.ext <;> simp

theorem ponCalWindow_frame : ponCalWindow p x =
    { x with
      ponState := (ponCalWindow p x).ponState
      ponTimer := (ponCalWindow p x).ponTimer
      ponTaps := (ponCalWindow p x).ponTaps
      ponPress := (ponCalWindow p x).ponPress } := by
  simp only [ponCalWindow]; repeat (first | rfl | split)

theorem ponCalActive_frame : ponCalActive x =
    { x with
      ponState := (ponCalActive x).ponState
      ponTimer := (ponCalActive x).ponTimer
      ponTaps := (ponCalActive x).ponTaps
      ponPress := (ponCalActive x).ponPress } := by
  unfold ponCalActive; split <;> rfl

theorem ponPoll_frame : ponPoll p x =
    { x with
      ponState := (ponPoll p x).ponState
      ponTimer := (ponPoll p x).ponTimer
      ponTaps := (ponPoll p x).ponTaps
      ponPress := (ponPoll p x).ponPress } := by
  unfold ponPoll; split
  · exact ponWaitRelease_frame p x
  · exact ponTapDetect_frame p x
  · exact ponCalWindow_frame p x
  · exact ponCalActive_frame x
  · rfl

/-- Registers that no command but LDI, LDHI, CLRERR and a failing one touches in TICK (R166). -/
theorem runTick_eq (s : State) : runTick s =
    { samplePorts s with
      regs := safetyStages s.params (outputStages s.params (shapingStages s.params (latch s.portValues s.regs))) } := by
  simp [runTick, onRegs]

theorem runPonstep_eq (s : State) : runPonstep s =
    { samplePorts s with regs := ponPoll s.params (latch s.portValues s.regs) } := by
  simp [runPonstep, onRegs]

end Sys2Proof.Machine
end

