-- ==== Sys2Proof/Laws/Ops.lean ====
section
/-! SUPPORT. What each shared operation can do, said once: how a command ends, what an error records, what a register
reads back as. -/

namespace Sys2Proof.Machine

variable (s : State)

/-! ### The end of a command -/

@[simp] theorem finish_ok (i : Instr) (t : State) : finish i s (.ok t) = .next t := rfl

@[simp] theorem finish_error (i : Instr) (e : CmdError) : finish i s (.error e) = .next (raiseError e (encode i) s) := rfl

/-- A command always goes on: with its effect, or with its error recorded (R192). -/
theorem finish_cases {i : Instr} {r : Except CmdError State} {t : State} (h : finish i s r = .next t) :
    r = .ok t ∨ ∃ e, r = .error e ∧ t = raiseError e (encode i) s := by
  cases r with
  | ok u => exact .inl (by simpa using h)
  | error e => exact .inr ⟨e, rfl, by simpa using h.symm⟩

theorem unlessHalted_running (h : s.regs.poweroff = 0#1) (r : Except CmdError State) : unlessHalted s r = r := by
  simp [unlessHalted, (isHalted_eq_false_iff s).2 h]

theorem unlessHalted_halted (h : s.regs.poweroff = 1#1) (r : Except CmdError State) :
    unlessHalted s r = .error .halted := by
  simp [unlessHalted, (isHalted_iff s).2 h]

theorem poweroff_cases : s.regs.poweroff = 0#1 ∨ s.regs.poweroff = 1#1 := BitVec.eq_zero_or_eq_one _

theorem stage_running (i : Instr) (f : Params → Regs → Regs) (h : s.regs.poweroff = 0#1) :
    stage i f s = .next (onRegs f s) := by
  rw [stage, unlessHalted_running s h]; rfl

theorem stage_halted (i : Instr) (f : Params → Regs → Regs) (h : s.regs.poweroff = 1#1) :
    stage i f s = .next (raiseError .halted (encode i) s) := by
  rw [stage, unlessHalted_halted s h]; rfl

/-- A stage command has its effect on the registers, or records HALTED. -/
theorem stage_cases {i : Instr} {f : Params → Regs → Regs} {t : State} (h : stage i f s = .next t) :
    (s.regs.poweroff = 0#1 ∧ t = onRegs f s) ∨ (s.regs.poweroff = 1#1 ∧ t = raiseError .halted (encode i) s) := by
  rcases poweroff_cases s with hp | hp
  · exact .inl ⟨hp, by simpa [stage_running s i f hp] using h.symm⟩
  · exact .inr ⟨hp, by simpa [stage_halted s i f hp] using h.symm⟩

/-! ### The error record -/

theorem recordError_first {x : Regs} (h : x.errCause = 0#4) (e : CmdError) (w : Word) :
    recordError e w x = { x with errCause := errorCode e, errWord := w } := if_pos h

theorem recordError_kept {x : Regs} (h : x.errCause ≠ 0#4) (e : CmdError) (w : Word) : recordError e w x = x := if_neg h

theorem errorCode_ne_zero (e : CmdError) : errorCode e ≠ 0#4 := by cases e <;> decide

theorem errorCode_le (e : CmdError) : (errorCode e).toNat ≤ 8 := by cases e <;> decide

/-- After an error some error is recorded, the first one (R192). -/
theorem recordError_errCause_ne_zero (e : CmdError) (w : Word) (x : Regs) : (recordError e w x).errCause ≠ 0#4 := by
  by_cases h : x.errCause = 0#4
  · simp [recordError_first h, errorCode_ne_zero]
  · rwa [recordError_kept h]

/-! ### Registers by name -/

@[simp] theorem regAt_regSel (r : Reg) : regAt (regSel r) = some r := by cases r <;> rfl

theorem allRegs_length : allRegs.length = 39 := rfl

theorem regAt_eq_none_of_le {sel : Sel} (h : 0x27 ≤ sel.toNat) : regAt sel = none :=
  List.getElem?_eq_none (by rw [allRegs_length]; omega)

theorem regAt_isSome_of_lt {sel : Sel} (h : sel.toNat < 0x27) : ∃ r, regAt sel = some r :=
  have h' : sel.toNat < allRegs.length := by rw [allRegs_length]; exact h
  ⟨_, List.getElem?_eq_getElem h'⟩

theorem toInt_bounds (w : Nat) (b : BitVec w) : -2 ^ (w - 1) ≤ b.toInt ∧ b.toInt < 2 ^ (w - 1) :=
  ⟨BitVec.le_toInt b, BitVec.toInt_lt⟩

/-- A register holds a value its width can hold. -/
theorem regGet_bounds (x : Regs) (r : Reg) :
    (regSigned r = true → -2 ^ (regWidth r - 1) ≤ regGet x r ∧ regGet x r < 2 ^ (regWidth r - 1)) ∧
    (regSigned r = false → 0 ≤ regGet x r ∧ regGet x r < 2 ^ regWidth r) := by
  cases r <;> simp only [regSigned, regWidth, regGet] <;> constructor <;> intro h <;>
    first
    | contradiction
    | exact toInt_bounds 16 _
    | exact toInt_bounds 32 _
    | exact ⟨Int.natCast_nonneg _, by exact_mod_cast BitVec.isLt _⟩

/-- A register written with a legal value reads back as that value. -/
theorem regGet_regSet_self (x : Regs) {v : Int} {r : Reg} (h : regLegal r v = true) : regGet (regSet x v r) r = v := by
  simp only [regLegal, decide_eq_true_eq] at h
  cases r <;> simp only [regLo, regHi] at h <;> simp only [regGet, regSet] <;>
    first
    | exact toInt_store16 h.1 h.2
    | exact toInt_store32 h.1 h.2
    | (rw [toNat_store _ h.1 (by norm_num; omega)]; omega)

/-- Writing a register leaves every other register alone. -/
theorem regGet_regSet_other (x : Regs) (v : Int) {q r : Reg} (h : q ≠ r) : regGet (regSet x v r) q = regGet x q := by
  cases r <;> cases q <;> first | rfl | exact absurd rfl h

end Sys2Proof.Machine
end

