-- ==== Sys2Proof/Laws/Exec.lean ====
section
/-! SUPPORT. What a command can do, said once for all commands: its result in a running block, HALTED in a halted one. -/

namespace Sys2Proof.Machine

variable (s : State)

/-- What a command does in a running block: the state it leaves, or the error its own rule names. -/
def commandResult : Instr → Except CmdError State
  | .nop => .ok s
  | .ldi sel imm => loadImmediate sel imm s
  | .ldhi sel imm => loadHigh sel imm s
  | .rd sel => readRegister sel s
  | .clrerr => .ok (onRegs (fun _ x => clearRecord x) s)
  | .rls step => .ok (onRegs (fun _ x => rateLimitSteer step x) s)
  | .rlv step => .ok (onRegs (fun _ x => rateLimitSpeed step x) s)
  | .lpfs coef => .ok (onRegs (filterSteer coef) s)
  | .lpfv coef => .ok (onRegs (filterSpeed coef) s)
  | .lpft coef => .ok (onRegs (filterTemp coef) s)
  | .shps => .ok (onRegs shapeSteer s)
  | .shpv => .ok (onRegs shapeSpeed s)
  | .shpt => .ok (onRegs shapeTemp s)
  | .blend => .ok (onRegs blendSpeed s)
  | .derate => .ok (onRegs (fun _ x => derateSpeed x) s)
  | .ebrake => if s.params.ebrakeEn then .ok (onRegs (fun _ x => brakeSpeed x) s) else .error .illegalOpcode
  | .mix => .ok (onRegs mixCommands s)
  | .out => .ok (onRegs assignOutputs s)
  | .sample => .ok (samplePorts s)
  | .safety => .ok (onRegs arbitrate s)
  | .slowdown => .ok (onRegs slowDown s)
  | .xition => .ok (onRegs transition s)
  | .inact => .ok (onRegs checkInactivity s)
  | .fbstrobe => .ok (onRegs strobeFeedback s)
  | .tick => if s.inRunPhase then .ok (runTick s) else .error .wrongPhase
  | .ponstep => if s.inRunPhase then .error .wrongPhase else .ok (runPonstep s)

/-- A running block executes every command: its effect, or its error recorded (R192). -/
theorem exec_running (h : s.regs.poweroff = 0#1) (i : Instr) : exec i s = finish i s (commandResult s i) := by
  have hu := unlessHalted_running s h
  cases i <;> first | rfl | exact stage_running s _ _ h | exact congrArg (finish _ s) (hu _)

/-- NOP and RD act also while halted (R200). -/
theorem exec_exempt {i : Instr} (h : i = .nop ∨ ∃ sel, i = .rd sel) : exec i s = finish i s (commandResult s i) := by
  rcases h with rfl | ⟨sel, rfl⟩ <;> rfl

/-- A halted block records HALTED for every other command (R190, R200). -/
theorem exec_halted (h : s.regs.poweroff = 1#1) {i : Instr} (h₁ : i ≠ .nop) (h₂ : ∀ sel, i ≠ .rd sel) :
    exec i s = .next (raiseError .halted (encode i) s) := by
  have hu := unlessHalted_halted s h
  cases i <;>
    first
    | exact absurd rfl h₁
    | exact absurd rfl (h₂ _)
    | exact stage_halted s _ _ h
    | exact congrArg (finish _ s) (hu _)

/-- All a command can do: have its effect, or record an error. -/
theorem exec_cases {i : Instr} {t : State} (h : exec i s = .next t) :
    commandResult s i = .ok t ∨ ∃ e, t = raiseError e (encode i) s := by
  have key : exec i s = finish i s (commandResult s i) → commandResult s i = .ok t ∨ ∃ e, t = raiseError e (encode i) s := by
    intro hf
    rcases finish_cases s (hf ▸ h) with hr | ⟨e, -, ht⟩
    · exact .inl hr
    · exact .inr ⟨e, ht⟩
  by_cases hn : i = .nop ∨ ∃ sel, i = .rd sel
  · exact key (exec_exempt s hn)
  · rcases poweroff_cases s with hp | hp
    · exact key (exec_running s hp i)
    · have hh := exec_halted s hp (fun e => hn (.inl e)) (fun sel e => hn (.inr ⟨sel, e⟩))
      exact .inr ⟨.halted, by simpa [hh] using h.symm⟩

end Sys2Proof.Machine
end

