-- ==== Sys2Proof/Laws/Params.lean ====
section
/-! SUPPORT. The legal ranges of 00_scope.md R6, read off a block instance's parameters. -/

namespace Sys2Proof

theorem ParamSet.inRange_iff (p : ParamSet) : p.inRange = true ↔
    (p.k ≤ 16) ∧
    (p.mixF ≤ 15) ∧
    (-32768 ≤ p.ks ∧ p.ks ≤ 32767) ∧
    (-32768 ≤ p.kt ∧ p.kt ≤ 32767) ∧
    (1 ≤ p.outMax ∧ p.outMax ≤ 32767) ∧
    (1 ≤ p.sdcDec ∧ p.sdcDec ≤ 100) ∧
    (0 ≤ p.blendLo ∧ p.blendLo < p.blendHi ∧ p.blendHi ≤ 32768) ∧
    (-2147483648 ≤ p.tempOff ∧ p.tempOff ≤ 2147483647) ∧
    (-2147483648 ≤ p.tempWarn ∧ p.tempWarn ≤ 2147483647) ∧
    (-32768 ≤ p.batDead ∧ p.batDead ≤ 32767) ∧
    (-32768 ≤ p.batLvl1 ∧ p.batLvl1 ≤ 32767) ∧
    (-32768 ≤ p.batLvl2 ∧ p.batLvl2 ≤ 32767) ∧
    (1 ≤ p.stopSpeed ∧ p.stopSpeed ≤ 32768) ∧
    (p.backSpeed ≤ 32768) ∧
    (0 ≤ p.dbEn ∧ p.dbEn ≤ 32767) ∧
    (0 ≤ p.dbInact ∧ p.dbInact ≤ 32767) ∧
    (p.inactN ≤ 4294967294) ∧
    (1 ≤ p.fbDiv ∧ p.fbDiv ≤ 4294967295) ∧
    (1 ≤ p.tickPeriod) ∧
    (1 ≤ p.tapMax ∧ p.tapMax ≤ 65535) ∧
    (1 ≤ p.tapWindow ∧ p.tapWindow ≤ 65535) ∧
    (1 ≤ p.longHold ∧ p.longHold ≤ 65535) ∧
    (1 ≤ p.calIdle ∧ p.calIdle ≤ 65535) := by
  simp only [ParamSet.inRange, Bool.and_eq_true, decide_eq_true_eq, and_assoc]

variable (p : Params)

theorem Params.k_range : p.k ≤ 16 := ((ParamSet.inRange_iff _).1 p.legal).1

theorem Params.mixF_range : p.mixF ≤ 15 := ((ParamSet.inRange_iff _).1 p.legal).2.1

theorem Params.ks_range : -32768 ≤ p.ks ∧ p.ks ≤ 32767 := ((ParamSet.inRange_iff _).1 p.legal).2.2.1

theorem Params.kt_range : -32768 ≤ p.kt ∧ p.kt ≤ 32767 := ((ParamSet.inRange_iff _).1 p.legal).2.2.2.1

theorem Params.outMax_range : 1 ≤ p.outMax ∧ p.outMax ≤ 32767 := ((ParamSet.inRange_iff _).1 p.legal).2.2.2.2.1

theorem Params.sdcDec_range : 1 ≤ p.sdcDec ∧ p.sdcDec ≤ 100 := ((ParamSet.inRange_iff _).1 p.legal).2.2.2.2.2.1

theorem Params.blend_range : 0 ≤ p.blendLo ∧ p.blendLo < p.blendHi ∧ p.blendHi ≤ 32768 := ((ParamSet.inRange_iff _).1 p.legal).2.2.2.2.2.2.1

theorem Params.tempOff_range : -2147483648 ≤ p.tempOff ∧ p.tempOff ≤ 2147483647 := ((ParamSet.inRange_iff _).1 p.legal).2.2.2.2.2.2.2.1

theorem Params.tempWarn_range : -2147483648 ≤ p.tempWarn ∧ p.tempWarn ≤ 2147483647 := ((ParamSet.inRange_iff _).1 p.legal).2.2.2.2.2.2.2.2.1

theorem Params.batDead_range : -32768 ≤ p.batDead ∧ p.batDead ≤ 32767 := ((ParamSet.inRange_iff _).1 p.legal).2.2.2.2.2.2.2.2.2.1

theorem Params.batLvl1_range : -32768 ≤ p.batLvl1 ∧ p.batLvl1 ≤ 32767 := ((ParamSet.inRange_iff _).1 p.legal).2.2.2.2.2.2.2.2.2.2.1

theorem Params.batLvl2_range : -32768 ≤ p.batLvl2 ∧ p.batLvl2 ≤ 32767 := ((ParamSet.inRange_iff _).1 p.legal).2.2.2.2.2.2.2.2.2.2.2.1

theorem Params.stopSpeed_range : 1 ≤ p.stopSpeed ∧ p.stopSpeed ≤ 32768 := ((ParamSet.inRange_iff _).1 p.legal).2.2.2.2.2.2.2.2.2.2.2.2.1

theorem Params.backSpeed_range : p.backSpeed ≤ 32768 := ((ParamSet.inRange_iff _).1 p.legal).2.2.2.2.2.2.2.2.2.2.2.2.2.1

theorem Params.dbEn_range : 0 ≤ p.dbEn ∧ p.dbEn ≤ 32767 := ((ParamSet.inRange_iff _).1 p.legal).2.2.2.2.2.2.2.2.2.2.2.2.2.2.1

theorem Params.dbInact_range : 0 ≤ p.dbInact ∧ p.dbInact ≤ 32767 := ((ParamSet.inRange_iff _).1 p.legal).2.2.2.2.2.2.2.2.2.2.2.2.2.2.2.1

theorem Params.inactN_range : p.inactN ≤ 4294967294 := ((ParamSet.inRange_iff _).1 p.legal).2.2.2.2.2.2.2.2.2.2.2.2.2.2.2.2.1

theorem Params.fbDiv_range : 1 ≤ p.fbDiv ∧ p.fbDiv ≤ 4294967295 := ((ParamSet.inRange_iff _).1 p.legal).2.2.2.2.2.2.2.2.2.2.2.2.2.2.2.2.2.1

theorem Params.tickPeriod_range : 1 ≤ p.tickPeriod := ((ParamSet.inRange_iff _).1 p.legal).2.2.2.2.2.2.2.2.2.2.2.2.2.2.2.2.2.2.1

theorem Params.tapMax_range : 1 ≤ p.tapMax ∧ p.tapMax ≤ 65535 := ((ParamSet.inRange_iff _).1 p.legal).2.2.2.2.2.2.2.2.2.2.2.2.2.2.2.2.2.2.2.1

theorem Params.tapWindow_range : 1 ≤ p.tapWindow ∧ p.tapWindow ≤ 65535 := ((ParamSet.inRange_iff _).1 p.legal).2.2.2.2.2.2.2.2.2.2.2.2.2.2.2.2.2.2.2.2.1

theorem Params.longHold_range : 1 ≤ p.longHold ∧ p.longHold ≤ 65535 := ((ParamSet.inRange_iff _).1 p.legal).2.2.2.2.2.2.2.2.2.2.2.2.2.2.2.2.2.2.2.2.2.1

theorem Params.calIdle_range : 1 ≤ p.calIdle ∧ p.calIdle ≤ 65535 := ((ParamSet.inRange_iff _).1 p.legal).2.2.2.2.2.2.2.2.2.2.2.2.2.2.2.2.2.2.2.2.2.2

end Sys2Proof
end

