-- ==== Sys2Proof/Laws/PerInstr.lean ====
section
/-! SUPPORT. The encoding facts that hold of every command, one lemma for each. -/

namespace Sys2Proof.Laws

/-- The encoder writes the command's own row of 30_encoding.md R84: the row of the word's opcode, read with the word's
fields, is the command, and every fixed bit of its format is as R76 to R79 say. -/
def EncodedRow.Statement (i : Instr) : Prop :=
  ∃ fmt, opcodeRow (opcodeField (encode i)) (selField (encode i)) (immField (encode i)) = some (fmt, i) ∧
    encode i &&& fmt.mask = (opcodeField (encode i)).setWidth 32

theorem EncodedRow.nop : EncodedRow.Statement .nop :=
  ⟨.N, by decide, by decide⟩

theorem EncodedRow.ldi (sel : Sel) (imm : Half) : EncodedRow.Statement (.ldi sel imm) :=
  ⟨.S, by simp [encode, opcodeRow], by simp [encode]⟩

theorem EncodedRow.ldhi (sel : Sel) (imm : Half) : EncodedRow.Statement (.ldhi sel imm) :=
  ⟨.S, by simp [encode, opcodeRow], by simp [encode]⟩

theorem EncodedRow.rd (sel : Sel) : EncodedRow.Statement (.rd sel) :=
  ⟨.R, by simp [encode, opcodeRow], by simp [encode]⟩

theorem EncodedRow.clrerr : EncodedRow.Statement .clrerr :=
  ⟨.N, by decide, by decide⟩

theorem EncodedRow.rls (step : Half) : EncodedRow.Statement (.rls step) :=
  ⟨.I, by simp [encode, opcodeRow], by simp [encode]⟩

theorem EncodedRow.rlv (step : Half) : EncodedRow.Statement (.rlv step) :=
  ⟨.I, by simp [encode, opcodeRow], by simp [encode]⟩

theorem EncodedRow.lpfs (coef : Half) : EncodedRow.Statement (.lpfs coef) :=
  ⟨.I, by simp [encode, opcodeRow], by simp [encode]⟩

theorem EncodedRow.lpfv (coef : Half) : EncodedRow.Statement (.lpfv coef) :=
  ⟨.I, by simp [encode, opcodeRow], by simp [encode]⟩

theorem EncodedRow.lpft (coef : Half) : EncodedRow.Statement (.lpft coef) :=
  ⟨.I, by simp [encode, opcodeRow], by simp [encode]⟩

theorem EncodedRow.shps : EncodedRow.Statement .shps :=
  ⟨.N, by decide, by decide⟩

theorem EncodedRow.shpv : EncodedRow.Statement .shpv :=
  ⟨.N, by decide, by decide⟩

theorem EncodedRow.shpt : EncodedRow.Statement .shpt :=
  ⟨.N, by decide, by decide⟩

theorem EncodedRow.blend : EncodedRow.Statement .blend :=
  ⟨.N, by decide, by decide⟩

theorem EncodedRow.derate : EncodedRow.Statement .derate :=
  ⟨.N, by decide, by decide⟩

theorem EncodedRow.ebrake : EncodedRow.Statement .ebrake :=
  ⟨.N, by decide, by decide⟩

theorem EncodedRow.mix : EncodedRow.Statement .mix :=
  ⟨.N, by decide, by decide⟩

theorem EncodedRow.out : EncodedRow.Statement .out :=
  ⟨.N, by decide, by decide⟩

theorem EncodedRow.sample : EncodedRow.Statement .sample :=
  ⟨.N, by decide, by decide⟩

theorem EncodedRow.safety : EncodedRow.Statement .safety :=
  ⟨.N, by decide, by decide⟩

theorem EncodedRow.slowdown : EncodedRow.Statement .slowdown :=
  ⟨.N, by decide, by decide⟩

theorem EncodedRow.xition : EncodedRow.Statement .xition :=
  ⟨.N, by decide, by decide⟩

theorem EncodedRow.inact : EncodedRow.Statement .inact :=
  ⟨.N, by decide, by decide⟩

theorem EncodedRow.fbstrobe : EncodedRow.Statement .fbstrobe :=
  ⟨.N, by decide, by decide⟩

theorem EncodedRow.tick : EncodedRow.Statement .tick :=
  ⟨.N, by decide, by decide⟩

theorem EncodedRow.ponstep : EncodedRow.Statement .ponstep :=
  ⟨.N, by decide, by decide⟩

end Sys2Proof.Laws
end

