-- ==== Sys2Proof/Laws/Stages.lean ====
section
/-! SUPPORT. What the primitives the stages share compute, said once for each, with the bounds that make the stored value
read back as itself. -/

namespace Sys2Proof.Machine

/-! ### Filters -/

theorem rateLimit_eq (t : Int) (n : Nat) (v : Int) : rateLimit t n v = v + max (-(n : Int)) (min (n : Int) (t - v)) := by
  unfold rateLimit; rw [clamp_eq_max_min _ (by omega)]

theorem rateLimit_bounds {t v : Int} (n : Nat) (ht : -32768 ≤ t ∧ t ≤ 32767) (hv : -32768 ≤ v ∧ v ≤ 32767) :
    -32768 ≤ rateLimit t n v ∧ rateLimit t n v ≤ 32767 := by
  rw [rateLimit_eq]; omega

/-- The accumulator stays between its old value and the target, so the filter never saturates (R105 (b), (d)). -/
theorem lowPassFilter_eq {k : Nat} (hk : k ≤ 16) (i c : Half) (a : Word) :
    lowPassFilter k i.toInt c.toNat a.toInt = a.toInt + (i.toInt * 2 ^ k - a.toInt) * c.toNat / 65536 ∧
    -2147483648 ≤ lowPassFilter k i.toInt c.toNat a.toInt ∧ lowPassFilter k i.toInt c.toNat a.toInt ≤ 2147483647 := by
  have h₁ := toInt16_ge i
  have h₂ := toInt16_le i
  have h₃ := toInt32_ge a
  have h₄ := toInt32_le a
  have hc := c.isLt
  have hp : (2 : Int) ^ k ≤ 65536 := by
    calc (2 : Int) ^ k ≤ 2 ^ 16 := by exact_mod_cast Nat.pow_le_pow_right (by norm_num) hk
      _ = 65536 := by norm_num
  have hp0 : (0 : Int) < 2 ^ k := by positivity
  have b₁ : -2147483648 ≤ i.toInt * 2 ^ k := by nlinarith
  have b₂ : i.toInt * 2 ^ k ≤ 2147483647 := by nlinarith
  have key : -2147483648 ≤ a.toInt + (i.toInt * 2 ^ k - a.toInt) * c.toNat / 65536 ∧
      a.toInt + (i.toInt * 2 ^ k - a.toInt) * c.toNat / 65536 ≤ 2147483647 := by
    generalize i.toInt * 2 ^ k = t at *
    generalize a.toInt = v at *
    have hc' : (c.toNat : Int) ≤ 65535 := by omega
    generalize hC : (c.toNat : Int) = z at *
    have hz : 0 ≤ z := by omega
    rcases le_total v t with h | h
    · have q : 0 ≤ (t - v) * z := by nlinarith
      have q₁ : 0 ≤ (t - v) * z / 65536 := by positivity
      have q₂ : (t - v) * z / 65536 ≤ t - v := Int.ediv_le_of_le_mul (by norm_num) (by nlinarith)
      omega
    · have q₁ : (t - v) * z / 65536 ≤ 0 := Int.ediv_le_of_le_mul (by norm_num) (by nlinarith)
      have q₂ : t - v ≤ (t - v) * z / 65536 := Int.le_ediv_of_mul_le (by norm_num) (by nlinarith)
      omega
  have e : lowPassFilter k i.toInt c.toNat a.toInt = a.toInt + (i.toInt * 2 ^ k - a.toInt) * c.toNat / 65536 := by
    unfold lowPassFilter shl; rw [asr_eq_ediv]; exact satS32_of_mem key.1 key.2
  exact ⟨e, e ▸ key⟩

theorem shape_bounds (k : Nat) (a : Word) : -2147483648 ≤ shape k a.toInt ∧ shape k a.toInt ≤ 2147483647 := by
  have h₁ := toInt32_ge a
  have h₂ := toInt32_le a
  have hp : (0 : Int) < 2 ^ k := by positivity
  unfold shape; rw [asr_eq_ediv]
  exact ⟨Int.le_ediv_of_mul_le hp (by nlinarith), Int.ediv_le_of_le_mul hp (by nlinarith)⟩

/-! ### Shaping -/

theorem averageSpeed_bounds (x : Regs) : -32768 ≤ averageSpeed x ∧ averageSpeed x ≤ 32767 := by
  have h₁ := toInt16_ge x.spdL
  have h₂ := toInt16_le x.spdL
  have h₃ := toInt16_ge x.spdR
  have h₄ := toInt16_le x.spdR
  unfold averageSpeed tdiv; rw [Int.tdiv_eq_ediv, show (2 : Int).sign = 1 from rfl]; split <;> omega

theorem blendOf_eq (p : Params) (avg : Int) :
    blendOf p avg = (max p.blendLo (min p.blendHi avg.natAbs) - p.blendLo) * 32768 / (p.blendHi - p.blendLo) := by
  have h := p.blend_range
  unfold blendOf shl
  rw [fdiv_eq_ediv _ (by omega), clamp_eq_max_min _ (by omega), absInt_eq_natAbs]; rfl

theorem blendOf_bounds (p : Params) (avg : Int) : 0 ≤ blendOf p avg ∧ blendOf p avg ≤ 32768 := by
  have h := p.blend_range
  rw [blendOf_eq]
  constructor
  · apply Int.ediv_nonneg <;> omega
  · have := show max p.blendLo (min p.blendHi (avg.natAbs : Int)) ≤ p.blendHi by omega
    exact Int.ediv_le_of_le_mul (by omega) (by nlinarith)

theorem brakeMagnitude_eq (x : Regs) : brakeMagnitude x = (x.speed.toInt.natAbs : Int) * x.speedBlend.toNat / 32768 := by
  unfold brakeMagnitude; rw [asr_eq_ediv, absInt_eq_natAbs]; rfl

/-! ### Mixer -/

theorem mixLeft_eq (p : Params) (v t : Int) :
    mixLeft p v t = max (-p.outMax) (min p.outMax (v * p.ks / 2 ^ p.mixF + t * p.kt / 2 ^ p.mixF)) := by
  have := p.outMax_range
  unfold mixLeft speedTerm steerTerm; rw [clamp_eq_max_min _ (by omega), asr_eq_ediv, asr_eq_ediv]

theorem mixRight_eq (p : Params) (v t : Int) :
    mixRight p v t = max (-p.outMax) (min p.outMax (v * p.ks / 2 ^ p.mixF - t * p.kt / 2 ^ p.mixF)) := by
  have := p.outMax_range
  unfold mixRight speedTerm steerTerm; rw [clamp_eq_max_min _ (by omega), asr_eq_ediv, asr_eq_ediv]

theorem polarity_eq (inv : Bool) (v : Half) :
    polarity inv v.toInt = if inv then min 32767 (-v.toInt) else v.toInt := by
  have h₁ := toInt16_ge v
  have h₂ := toInt16_le v
  unfold polarity; rw [satS16_eq]; cases inv <;> simp <;> omega

/-! ### Safety and sequencer -/

theorem slowedDown_toNat (p : Params) (x : Regs) : (slowedDown p x).toNat = x.sdc.toNat - p.sdcDec := by
  have := x.sdc.isLt
  unfold slowedDown; rw [toNat_store] <;> omega

theorem flagBit_toNat (x : Regs) (i : Nat) : (flagBit x i).toNat = x.flagsIn.toNat / 2 ^ i % 2 := by
  simp [flagBit, Nat.shiftRight_eq_div_pow]

/-- The eight 1-bit ports in their places (R34, R160). -/
theorem packFlags_toNat (v : Sample) : (packFlags v).toNat =
    v.analogTo.toNat + 2 * v.serialTo.toNat + 4 * v.generalTo.toNat + 8 * v.enReq.toNat + 16 * v.dirRev.toNat
      + 32 * v.button.toNat + 64 * v.thrMax.toNat + 128 * v.calDone.toNat := by
  unfold packFlags
  generalize v.analogTo = a
  generalize v.serialTo = b
  generalize v.generalTo = c
  generalize v.enReq = d
  generalize v.dirRev = e
  generalize v.button = f
  generalize v.thrMax = g
  generalize v.calDone = h
  revert a b c d e f g h; decide

theorem flagBit_latch (v : Sample) (x : Regs) (i : Nat) :
    (flagBit (latch v x) i).toNat = (packFlags v).toNat / 2 ^ i % 2 := flagBit_toNat _ i

theorem inc16_toNat (v : BitVec 16) : (inc16 v).toNat = min (v.toNat + 1) 65535 := by
  unfold inc16; rw [toNat_store] <;> omega

theorem ponPoll_waitRelease {p : Params} {x : Regs} (h : x.ponState = 0#3) :
    ponPoll p x = ponWaitRelease p x := by simp [ponPoll, h]

theorem ponPoll_tapDetect {p : Params} {x : Regs} (h : x.ponState = 1#3) :
    ponPoll p x = ponTapDetect p x := by simp [ponPoll, h]

theorem ponPoll_calWindow {p : Params} {x : Regs} (h : x.ponState = 2#3) :
    ponPoll p x = ponCalWindow p x := by simp [ponPoll, h]

theorem ponPoll_calActive {p : Params} {x : Regs} (h : x.ponState = 3#3) :
    ponPoll p x = ponCalActive x := by simp [ponPoll, h]

end Sys2Proof.Machine
end

