-- ==== Sys2Proof/Laws/Step.lean ====
section
/-! SUPPORT. What one step can do, said once: a reset, a strobe while halted, TICK, PONSTEP, a command, a rejected word, or
nothing. -/

namespace Sys2Proof.Machine

/-- All a step can do. -/
theorem step_cases {s t : State} (h : step s = .next t) :
    (s.nextEvent.rst = true ∧ t = resetBlock s.eventTaken) ∨
    (s.nextEvent.rst = false ∧ s.nextEvent.tick = true ∧ s.regs.poweroff = 1#1 ∧ t = s.eventTaken) ∨
    (s.nextEvent.rst = false ∧ s.nextEvent.tick = true ∧ s.regs.poweroff = 0#1 ∧ s.regs.ponState = 4#3 ∧
      t = runTick s.eventTaken) ∨
    (s.nextEvent.rst = false ∧ s.nextEvent.tick = true ∧ s.regs.poweroff = 0#1 ∧ s.regs.ponState ≠ 4#3 ∧
      t = runPonstep s.eventTaken) ∨
    (s.nextEvent.rst = false ∧ s.nextEvent.tick = false ∧ ∃ w i, s.nextEvent.cmd = some w ∧
      s.params.testPort = true ∧ decodeChecked s.isHalted s.params.ebrakeEn w = .ok i ∧
      exec i s.eventTaken = .next t) ∨
    (s.nextEvent.rst = false ∧ s.nextEvent.tick = false ∧ ∃ w e, s.nextEvent.cmd = some w ∧
      s.params.testPort = true ∧ decodeChecked s.isHalted s.params.ebrakeEn w = .error e ∧
      t = raiseError e w s.eventTaken) ∨
    (s.nextEvent.rst = false ∧ s.nextEvent.tick = false ∧ (s.nextEvent.cmd = none ∨ s.params.testPort = false) ∧
      t = s.eventTaken) := by
  unfold step eventAction at h
  cases hr : s.nextEvent.rst
  · cases ht : s.nextEvent.tick
    · cases hc : s.nextEvent.cmd with
      | none => simp [hr, ht, hc] at h; simp [h]
      | some w =>
        cases hp : s.params.testPort
        · simp [hr, ht, hc, commandAction, hp] at h; simp [h]
        · cases hd : decodeChecked s.isHalted s.params.ebrakeEn w <;>
            simp [hr, ht, hc, commandAction, hp, hd] at h <;> simp [hd, h]
    · rcases poweroff_cases s with h0 | h0
      · by_cases hr4 : s.regs.ponState = 4#3
        · have e : tickAction s = .run .tick := by
            simp [tickAction, (isHalted_eq_false_iff s).2 h0, (inRunPhase_iff s).2 hr4]
          simp only [hr, ht, e] at h
          simp at h
          rw [exec_running _ (by simpa using h0)] at h
          simp [commandResult, State.inRunPhase, hr4] at h
          simp [hr4, h, h0]
        · have e : tickAction s = .run .ponstep := by
            simp [tickAction, (isHalted_eq_false_iff s).2 h0, State.inRunPhase, hr4]
          simp only [hr, ht, e] at h
          simp at h
          rw [exec_running _ (by simpa using h0)] at h
          simp [commandResult, State.inRunPhase, hr4] at h
          simp [hr4, h, h0]
      · have e : tickAction s = .idle := by simp [tickAction, (isHalted_iff s).2 h0]
        simp [hr, ht, e] at h; simp [h0, h]
  · simp [hr] at h; simp [h]

end Sys2Proof.Machine
end

