-- ==== Sys2Proof/Tests/Slice0.lean ====
section
/-! SUPPORT. The model's own tests: the checks of WellFormed, one word of every command written out bit by bit from
30_encoding.md R75 to R84, at most two steps for each command with the values of 95_test_vectors.md, and for every statement
with hypotheses the states and operands that meet them. -/

namespace Sys2Proof.Machine

/-! ### Helpers -/

/-- The test configuration TC of 95_test_vectors.md section 0: the reset configuration with the electric brake built in. -/
def testParams : Params := { Config.resetParams with ebrakeEn := true, legal := by decide }

/-- A block with the test configuration TC and the given registers. -/
def testBlock (x : Regs) : State := { State.reset with params := testParams, regs := x }

/-- The reset registers in the run phase. -/
def runRegs : Regs := { Regs.reset with ponState := 4#3 }

/-- The reset registers, halted. -/
def haltedRegs : Regs := { Regs.reset with poweroff := 1#1 }

/-- Ports all 0 but a nominal battery and temperature (95_test_vectors.md section 0). -/
def nominalPorts : Sample :=
  { cmdSteer := 0#16, cmdSpeed := 0#16, spdL := 0#16, spdR := 0#16, temp := 25#16, bat := 4000#16, faultL := 0#8,
    faultR := 0#8, analogTo := 0#1, serialTo := 0#1, generalTo := 0#1, enReq := 0#1, dirRev := 0#1, button := 0#1,
    thrMax := 0#1, calDone := 0#1 }

/-- TC without the electric brake. -/
def noBrake : Params := { testParams with ebrakeEn := false, legal := by decide }

/-- TC without the command port. -/
def noTestPort : Params := { testParams with testPort := false, legal := by decide }

/-- The registers one step after the word `w` is placed on the command port of a block with registers `x`. -/
def regsAfter (w : Word) (x : Regs) : Option Regs :=
  match step ((testBlock x).withFetchWord 32 w.toNat) with
  | .next t => some t.regs
  | _ => none

/-- The registers one step after `w`, with the given ports for the next SAMPLE. -/
def regsAfterPorts (w : Word) (v : Sample) (x : Regs) : Option Regs :=
  match step ({ testBlock x with samples := [v] }.withFetchWord 32 w.toNat) with
  | .next t => some t.regs
  | _ => none

/-- A block whose next event is the command `w`. -/
def commanded (w : Word) (x : Regs) : State :=
  { testBlock x with events := [{ rst := false, tick := false, cmd := some w }] }

/-- `n` tick strobes, nothing else, as the next events. -/
def strobes (n : Nat) : List Event := List.replicate n { rst := false, tick := true, cmd := none }

/-- A block whose next event is a tick strobe, with nominal ports. -/
def strobed (x : Regs) : State := { testBlock x with events := strobes 1, samples := [nominalPorts] }

/-- What the decoder answers, as an `Option`. -/
def decoded (w : Word) : Option Instr :=
  match decode w with
  | .ok i => some i
  | .error _ => none

/-- Which error a check of 30_encoding.md R85 raises. -/
def rejected (halted ebrakeEn : Bool) (w : Word) : Option CmdError :=
  match decodeChecked halted ebrakeEn w with
  | .ok _ => none
  | .error e => some e

/-! ### WellFormed refuses an ill-formed term for each of its checks -/

theorem test_wellFormed_ldi_last : (Instr.ldi 0x26#6 0#16).wellFormed = true := by decide

theorem test_wellFormed_ldi_reserved : (Instr.ldi 0x27#6 0#16).wellFormed = false := by decide

theorem test_wellFormed_ldhi_last : (Instr.ldhi 0x26#6 0#16).wellFormed = true := by decide

theorem test_wellFormed_ldhi_reserved : (Instr.ldhi 0x27#6 0#16).wellFormed = false := by decide

theorem test_wellFormed_rd_last : (Instr.rd 0x26#6).wellFormed = true := by decide

theorem test_wellFormed_rd_reserved : (Instr.rd 0x3F#6).wellFormed = false := by decide

/-! ### Decoding: fields imm[31:16], zeros or sel[13:8], opcode[7:0], written out bit by bit -/

theorem test_decode_nop : decoded 0b00000000_00000000_00000000_00000000#32 = some .nop := by decide

theorem test_decode_ldi :
    decoded 0b00000011_11101000_00000001_00000001#32 = some (.ldi 0b000001#6 0b0000001111101000#16) := by decide

theorem test_decode_ldhi :
    decoded 0b00000010_01011000_00000101_00000010#32 = some (.ldhi 0b000101#6 0b0000001001011000#16) := by decide

theorem test_decode_rd : decoded 0b00000000_00000000_00100110_00000011#32 = some (.rd 0b100110#6) := by decide

theorem test_decode_clrerr : decoded 0b00000000_00000000_00000000_00000100#32 = some .clrerr := by decide

theorem test_decode_rls :
    decoded 0b00000000_01100100_00000000_00010000#32 = some (.rls 0b0000000001100100#16) := by decide

theorem test_decode_rlv :
    decoded 0b11111111_11111111_00000000_00010001#32 = some (.rlv 0b1111111111111111#16) := by decide

theorem test_decode_lpfs :
    decoded 0b10000000_00000001_00000000_00010010#32 = some (.lpfs 0b1000000000000001#16) := by decide

theorem test_decode_lpfv :
    decoded 0b10000000_00000000_00000000_00010011#32 = some (.lpfv 0b1000000000000000#16) := by decide

theorem test_decode_lpft :
    decoded 0b00000001_00000010_00000000_00010100#32 = some (.lpft 0b0000000100000010#16) := by decide

theorem test_decode_shps : decoded 0b00000000_00000000_00000000_00010101#32 = some .shps := by decide

theorem test_decode_shpv : decoded 0b00000000_00000000_00000000_00010110#32 = some .shpv := by decide

theorem test_decode_shpt : decoded 0b00000000_00000000_00000000_00010111#32 = some .shpt := by decide

theorem test_decode_blend : decoded 0b00000000_00000000_00000000_00011000#32 = some .blend := by decide

theorem test_decode_derate : decoded 0b00000000_00000000_00000000_00011001#32 = some .derate := by decide

theorem test_decode_ebrake : decoded 0b00000000_00000000_00000000_00011010#32 = some .ebrake := by decide

theorem test_decode_mix : decoded 0b00000000_00000000_00000000_00011011#32 = some .mix := by decide

theorem test_decode_out : decoded 0b00000000_00000000_00000000_00011100#32 = some .out := by decide

theorem test_decode_sample : decoded 0b00000000_00000000_00000000_00100000#32 = some .sample := by decide

theorem test_decode_safety : decoded 0b00000000_00000000_00000000_00100001#32 = some .safety := by decide

theorem test_decode_slowdown : decoded 0b00000000_00000000_00000000_00100010#32 = some .slowdown := by decide

theorem test_decode_xition : decoded 0b00000000_00000000_00000000_00100011#32 = some .xition := by decide

theorem test_decode_inact : decoded 0b00000000_00000000_00000000_00100100#32 = some .inact := by decide

theorem test_decode_fbstrobe : decoded 0b00000000_00000000_00000000_00101000#32 = some .fbstrobe := by decide

theorem test_decode_tick : decoded 0b00000000_00000000_00000000_00101001#32 = some .tick := by decide

theorem test_decode_ponstep : decoded 0b00000000_00000000_00000000_00101010#32 = some .ponstep := by decide

theorem test_decode_unassigned : rejected false true 0x00000005#32 = some .illegalOpcode := by decide

theorem test_decode_ebrake_absent : rejected false false 0x0100001A#32 = some .illegalOpcode := by decide

theorem test_decode_reserved_bits : rejected false true 0x00004003#32 = some .reservedBits := by decide

theorem test_decode_bad_selector : rejected false true 0x00002703#32 = some .badSelector := by decide

theorem test_decode_halted : rejected true true 0xFFFFFFFF#32 = some .halted := by decide

theorem test_decode_halted_rd : rejected true true 0x00002603#32 = none := by decide

theorem test_decodeTableWord_ldi : decodeTableWord 32 0x03E80101 = some (.ldi 1#6 1000#16) := by decide

/-! ### One step of each command: vectors of 95_test_vectors.md sections 2.1 to 2.15, named in each theorem -/

theorem test_step_nop : regsAfter 0x00000000#32 Regs.reset =
      some Regs.reset := by decide

theorem test_step_ldi_RA2 :
    regsAfter 0xFC180101#32 Regs.reset =
      some { Regs.reset with cmdSpeed := -1000#16 } := by decide

theorem test_step_ldi_illegal_value :
    regsAfter 0x00650D01#32 Regs.reset =
      some { Regs.reset with errCause := 8#4, errWord := 0x00650D01#32 } := by decide

theorem test_step_ldhi_high_half :
    regsAfter 0x02580502#32 { Regs.reset with accSpeed := 0x1234ABCD#32 } =
      some { Regs.reset with accSpeed := 0x0258ABCD#32 } := by decide

theorem test_step_ldhi_not_wide :
    regsAfter 0x00010102#32 Regs.reset =
      some { Regs.reset with errCause := 5#4, errWord := 0x00010102#32 } := by decide

/-- RD of a negative i16 register sign-extends it (10_state.md R23). -/
theorem test_step_rd : (match step ((testBlock { Regs.reset with cmdSpeed := -1000#16 }).withFetchWord 32 0x103)
    with | .next t => some t.rdata | _ => none) = some 0xFFFFFC18#32 := by decide

theorem test_step_rd_halted :
    regsAfter 0x00000103#32 { Regs.reset with poweroff := 1#1 } =
      some { Regs.reset with poweroff := 1#1 } := by decide

theorem test_step_clrerr :
    regsAfter 0x00000004#32 { Regs.reset with errCause := 3#4, errWord := 5#32 } =
      some { Regs.reset with errCause := 0#4, errWord := 0#32 } := by decide

theorem test_step_rls_RL12 :
    regsAfter 0x00640010#32 { Regs.reset with cmdSteer := 1000#16 } =
      some { Regs.reset with cmdSteer := 1000#16, rsSteer := 100#16 } := by decide

theorem test_step_rlv_RL4 :
    regsAfter 0xFFFF0011#32 { Regs.reset with cmdSpeed := 32767#16, rsSpeed := -32768#16 } =
      some { Regs.reset with cmdSpeed := 32767#16, rsSpeed := 32767#16 } := by decide

theorem test_step_rlv_RL7 :
    regsAfter 0x00010011#32 { Regs.reset with cmdSpeed := -32768#16, rsSpeed := 32767#16 } =
      some { Regs.reset with cmdSpeed := -32768#16, rsSpeed := 32766#16 } := by decide

theorem test_step_lpfs_LP16 :
    regsAfter 0x80000012#32 { Regs.reset with rsSteer := -1#16 } =
      some { Regs.reset with rsSteer := -1#16, accSteer := -32768#32 } := by decide

theorem test_step_lpfv_LP9 :
    regsAfter 0xFFFF0013#32 { Regs.reset with rsSpeed := 32767#16, accSpeed := -2147483648#32 } =
      some { Regs.reset with rsSpeed := 32767#16, accSpeed := 2147352577#32 } := by decide

theorem test_step_lpfv_LP5 :
    regsAfter 0x00010013#32 { Regs.reset with accSpeed := -1#32 } =
      some { Regs.reset with accSpeed := -1#32 } := by decide

theorem test_step_lpft_LP1 :
    regsAfter 0x80000014#32 { Regs.reset with tempRaw := 1000#16 } =
      some { Regs.reset with tempRaw := 1000#16, accTemp := 32768000#32 } := by decide

theorem test_step_shps_SH6 :
    regsAfter 0x00000015#32 { Regs.reset with accSteer := -2147483648#32 } =
      some { Regs.reset with accSteer := -2147483648#32, steer := -32768#32 } := by decide

theorem test_step_shpv_SH4 :
    regsAfter 0x00000016#32 { Regs.reset with accSpeed := -65537#32 } =
      some { Regs.reset with accSpeed := -65537#32, speed := -2#32 } := by decide

theorem test_step_shpt_SH7 :
    regsAfter 0x00000017#32 { Regs.reset with accTemp := 0x003C0000#32 } =
      some { Regs.reset with accTemp := 0x003C0000#32, tempFilt := 60#32 } := by decide

theorem test_step_blend_BL3 :
    regsAfter 0x00000018#32 { Regs.reset with spdL := -32768#16, spdR := -32768#16 } =
      some { Regs.reset with
        spdL := -32768#16, spdR := -32768#16, speedAvg := -32768#16, speedAvgAbs := 32768#16,
        speedBlend := 32768#16 } := by decide

theorem test_step_blend_BL9 :
    regsAfter 0x00000018#32 { Regs.reset with spdL := 19#16, spdR := 19#16 } =
      some { Regs.reset with
        spdL := 19#16, spdR := 19#16, speedAvg := 19#16, speedAvgAbs := 19#16, speedBlend := 29491#16 } := by decide

theorem test_step_derate_D7 :
    regsAfter 0x00000019#32 { Regs.reset with speed := -2147483648#32, sdc := 99#8 } =
      some { Regs.reset with speed := -2126008811#32, sdc := 99#8 } := by decide

theorem test_step_derate_D3 :
    regsAfter 0x00000019#32 { Regs.reset with speed := -7#32, sdc := 50#8 } =
      some { Regs.reset with speed := -3#32, sdc := 50#8 } := by decide

theorem test_step_ebrake_EB6 :
    regsAfter 0x0000001A#32 { Regs.reset with speed := -2147483648#32, speedBlend := 32768#16, speedAvg := -5#16 } =
      some { Regs.reset with speed := 2147483647#32, speedBlend := 32768#16, speedAvg := -5#16 } := by decide

theorem test_step_ebrake_EB4 :
    regsAfter 0x0000001A#32 { Regs.reset with
        speed := 400#32, speedBlend := 32768#16, speedAvg := 30#16, flagsIn := 0x10#16 } =
      some { Regs.reset with
        speed := -400#32, speedBlend := 32768#16, speedAvg := 30#16, flagsIn := 0x10#16 } := by decide

theorem test_step_mix_M8 :
    regsAfter 0x0000001B#32 { Regs.reset with steer := -3#32 } =
      some { Regs.reset with steer := -3#32, motL := -2#16, motR := 2#16 } := by decide

theorem test_step_mix_M10 :
    regsAfter 0x0000001B#32 { Regs.reset with speed := 2147483647#32, steer := -2147483648#32 } =
      some { Regs.reset with
        speed := 2147483647#32, steer := -2147483648#32, motL := 1000#16, motR := 1000#16 } := by decide

theorem test_step_out_O2 :
    regsAfter 0x0000001C#32 { Regs.reset with motL := -1000#16, motR := 1000#16 } =
      some { Regs.reset with motL := -1000#16, motR := 1000#16, outL := -1000#16, outR := -1000#16 } := by decide

theorem test_step_sample_SA2 :
    regsAfterPorts 0x00000020#32 { nominalPorts with
        temp := 0#16, bat := 0#16, analogTo := 1#1, enReq := 1#1, button := 1#1, calDone := 1#1 }
      Regs.reset =
      some { Regs.reset with flagsIn := 0xA9#16 } := by decide

theorem test_step_sample_SA3 :
    regsAfterPorts 0x00000020#32 { nominalPorts with temp := 0#16, cmdSteer := -32768#16, faultR := 255#8, bat := -1#16 }
      Regs.reset =
      some { Regs.reset with cmdSteer := -32768#16, faultR := 255#8, bat := -1#16 } := by decide

theorem test_step_safety_S3 :
    regsAfter 0x00000021#32 { Regs.reset with
        tempFilt := 60#32, bat := 4000#16, enable := 1#1, speedAvg := 100#16, speedAvgAbs := 100#16,
        faultL := 2#8 } =
      some { Regs.reset with
        tempFilt := 60#32, bat := 4000#16, enable := 1#1, speedAvg := 100#16, speedAvgAbs := 100#16,
        faultL := 2#8, sdc := 90#8, cause := 1#4 } := by decide

theorem test_step_safety_S15 :
    regsAfter 0x00000021#32 { Regs.reset with
        tempFilt := 25#32, bat := 4000#16, enable := 1#1, speedAvg := -51#16, speedAvgAbs := 51#16 } =
      some { Regs.reset with
        tempFilt := 25#32, bat := 4000#16, enable := 1#1, speedAvg := -51#16, speedAvgAbs := 51#16,
        backward := 1#1, cause := 10#4, alert := 0x08140A08#32 } := by decide

theorem test_step_slowdown_D10 :
    regsAfter 0x00000022#32 { Regs.reset with sdc := 5#8 } =
      some { Regs.reset with sdc := 0#8 } := by decide

theorem test_step_xition_X3 :
    regsAfter 0x00000023#32 { Regs.reset with
        accSteer := 1000#32, accSpeed := 2000#32, flagsIn := 8#16, cmdSteer := -50#16, cmdSpeed := 50#16 } =
      some { Regs.reset with
        accSteer := 0#32, accSpeed := 0#32, flagsIn := 8#16, cmdSteer := -50#16, cmdSpeed := 50#16,
        enable := 1#1, alert := 0x09140A09#32 } := by decide

theorem test_step_xition_X6 :
    regsAfter 0x00000023#32 { Regs.reset with enable := 1#1, accSteer := 1000#32, cmdSteer := -51#16 } =
      some { Regs.reset with enable := 1#1, accSteer := 1000#32, cmdSteer := -51#16 } := by decide

theorem test_step_inact_IN1 :
    regsAfter 0x00000024#32 { Regs.reset with motR := 20#16, inactCnt := 3#32 } =
      some { Regs.reset with motR := 20#16, inactCnt := 4#32, poweroff := 1#1 } := by decide

theorem test_step_inact_IN5 :
    regsAfter 0x00000024#32 { Regs.reset with inactCnt := 4294967295#32 } =
      some { Regs.reset with inactCnt := 4294967295#32, poweroff := 1#1 } := by decide

theorem test_step_fbstrobe_F3 :
    regsAfter 0x00000028#32 { Regs.reset with tickCnt := 4294967295#32 } =
      some { Regs.reset with tickCnt := 0#32, fbStrobe := 1#1 } := by decide

theorem test_step_fbstrobe_F2 :
    regsAfter 0x00000028#32 { Regs.reset with tickCnt := 2#32 } =
      some { Regs.reset with tickCnt := 3#32 } := by decide

/-- The first tick after power-on of a command of 600: R166 by hand with TC. -/
theorem test_step_tick : regsAfterPorts 0x00000029#32 { nominalPorts with cmdSpeed := 600#16 } runRegs =
      some { runRegs with
        cmdSpeed := 600#16, tempRaw := 25#16, bat := 4000#16, rsSpeed := 100#16, accSpeed := 3276800#32,
        speed := 50#32, motL := 50#16, motR := 50#16, outL := 50#16, outR := -50#16, accTemp := 819200#32,
        tempFilt := 12#32, cause := 11#4, inactCnt := 1#32, tickCnt := 1#32 } := by decide

theorem test_step_tick_wrong_phase :
    regsAfter 0x00000029#32 Regs.reset =
      some { Regs.reset with errCause := 7#4, errWord := 0x00000029#32 } := by decide

theorem test_step_ponstep_PS7 :
    regsAfterPorts 0x0000002A#32 { nominalPorts with temp := 0#16, bat := 0#16, thrMax := 1#1 }
      { Regs.reset with ponState := 1#3, ponTimer := 9#16, ponTaps := 1#8, ponPress := 2#16 } =
      some { Regs.reset with
        ponState := 2#3, ponTimer := 0#16, ponTaps := 2#8, ponPress := 0#16, flagsIn := 0x40#16 } := by decide

theorem test_step_ponstep_PS10 :
    regsAfterPorts 0x0000002A#32 { nominalPorts with temp := 0#16, bat := 0#16 }
      { Regs.reset with ponState := 2#3, ponTimer := 7#16, ponTaps := 2#8 } =
      some { Regs.reset with ponState := 4#3, ponTimer := 0#16, ponTaps := 0#8 } := by decide

/-- The defaults of 00_scope.md R6 in the reset configuration. -/
theorem test_reset_default_parameters :
    State.reset.params.k = 16 ∧ State.reset.params.mixF = 14 ∧ State.reset.params.outMax = 1000 ∧
      State.reset.params.ebrakeEn = false := by decide

/-- Placing a word leaves the parameters as they are (R5), so EBRAKE's word in the reset configuration, which is built without
the electric brake, has EBRAKE's effect there: ILLEGAL_OPCODE with its word (R85, R190). -/
theorem test_place_ebrake :
    (State.reset.withFetchWord 32 0x1A).params = State.reset.params ∧
      step (State.reset.withFetchWord 32 0x1A) = exec .ebrake State.reset ∧
      exec .ebrake State.reset =
        .next { State.reset with regs := { Regs.reset with errCause := 1#4, errWord := 0x0000001A#32 } } :=
  ⟨rfl, rfl, rfl⟩

/-! ### Witnesses: states and operands that meet the hypotheses of the statements -/

theorem test_witness_DecodeOfEncodedCommand :
    Instr.wellFormed (.rd 0x26#6) = true ∧
      ((true : Bool) = true → Instr.rd 0x26#6 = .nop ∨ ∃ sel, Instr.rd 0x26#6 = .rd sel) ∧
      ((false : Bool) = false → Instr.rd 0x26#6 ≠ .ebrake) := ⟨by decide, fun _ => .inr ⟨_, rfl⟩, fun _ => by decide⟩

theorem test_witness_WordIsOneCommandOrOneError :
    decode 0x0000002B#32 = .error .illegalOpcode ∧ Instr.ponstep.wellFormed = true := ⟨rfl, rfl⟩

theorem test_witness_PseudoInstructionsExpand :
    (testBlock runRegs).regs.poweroff = 0#1 ∧
      Reg.tickCnt ∈ [Reg.accSteer, .accSpeed, .accTemp, .steer, .speed, .inactCnt, .tickCnt] := by decide

theorem test_witness_StepRunsDecodedCommand :
    (commanded 0x00642601#32 runRegs).nextEvent = { rst := false, tick := false, cmd := some 0x00642601#32 } ∧
      (commanded 0x00642601#32 runRegs).params.testPort = true ∧
      decodeChecked (commanded 0x00642601#32 runRegs).isHalted (commanded 0x00642601#32 runRegs).params.ebrakeEn
        0x00642601#32 = .ok (.ldi 0x26#6 100#16) ∧
      (commanded 0x00642601#32 runRegs).events = { rst := false, tick := false, cmd := some 0x00642601#32 } :: [] :=
  ⟨rfl, rfl, rfl, rfl⟩

theorem test_witness_StepRecordsRejectedWord_halted :
    (commanded 0x00000029#32 haltedRegs).nextEvent = { rst := false, tick := false, cmd := some 0x00000029#32 } ∧
      (commanded 0x00000029#32 haltedRegs).params.testPort = true ∧
      decodeChecked (commanded 0x00000029#32 haltedRegs).isHalted (commanded 0x00000029#32 haltedRegs).params.ebrakeEn
        0x00000029#32 = .error .halted := ⟨rfl, rfl, rfl⟩

theorem test_witness_StepRecordsRejectedWord_opcode :
    (commanded 0x000000FF#32 runRegs).nextEvent = { rst := false, tick := false, cmd := some 0x000000FF#32 } ∧
      (commanded 0x000000FF#32 runRegs).params.testPort = true ∧
      decodeChecked (commanded 0x000000FF#32 runRegs).isHalted (commanded 0x000000FF#32 runRegs).params.ebrakeEn
        0x000000FF#32 = .error .illegalOpcode := ⟨rfl, rfl, rfl⟩

theorem test_witness_StepRecordsRejectedWord_reserved :
    (commanded 0x80000004#32 runRegs).nextEvent = { rst := false, tick := false, cmd := some 0x80000004#32 } ∧
      (commanded 0x80000004#32 runRegs).params.testPort = true ∧
      decodeChecked (commanded 0x80000004#32 runRegs).isHalted (commanded 0x80000004#32 runRegs).params.ebrakeEn
        0x80000004#32 = .error .reservedBits := ⟨rfl, rfl, rfl⟩

theorem test_witness_StepRecordsRejectedWord_selector :
    (commanded 0x00002703#32 haltedRegs).nextEvent = { rst := false, tick := false, cmd := some 0x00002703#32 } ∧
      (commanded 0x00002703#32 haltedRegs).params.testPort = true ∧
      decodeChecked (commanded 0x00002703#32 haltedRegs).isHalted (commanded 0x00002703#32 haltedRegs).params.ebrakeEn
        0x00002703#32 = .error .badSelector := ⟨rfl, rfl, rfl⟩

theorem test_witness_TickStrobeDispatch_halted :
    (strobed haltedRegs).nextEvent.rst = false ∧ (strobed haltedRegs).nextEvent.tick = true ∧
      (strobed haltedRegs).regs.poweroff = 1#1 := by decide

theorem test_witness_TickStrobeDispatch_run :
    (strobed runRegs).nextEvent.rst = false ∧ (strobed runRegs).nextEvent.tick = true ∧
      (strobed runRegs).regs.poweroff = 0#1 ∧ (strobed runRegs).regs.ponState = 4#3 := by decide

theorem test_witness_TickStrobeDispatch_powerOn :
    (strobed Regs.reset).nextEvent.rst = false ∧ (strobed Regs.reset).nextEvent.tick = true ∧
      (strobed Regs.reset).regs.poweroff = 0#1 ∧ (strobed Regs.reset).regs.ponState ≠ 4#3 := by decide

theorem test_witness_ResetEventRestartsBlock :
    { testBlock haltedRegs with events := [{ rst := true, tick := true, cmd := some 0#32 }] }.nextEvent.rst = true :=
  by decide

theorem test_witness_TickBeforeCommandAndIdle_tick :
    { testBlock runRegs with events := [{ rst := false, tick := true, cmd := some 4#32 }] }.nextEvent =
      { rst := false, tick := true, cmd := some 4#32 } := by decide

theorem test_witness_TickBeforeCommandAndIdle_noPort :
    { commanded 4#32 runRegs with params := noTestPort }.nextEvent = { rst := false, tick := false, cmd := some 4#32 } ∧
      { commanded 4#32 runRegs with params := noTestPort }.params.testPort = false := by decide

theorem test_witness_TickBeforeCommandAndIdle_idle :
    { testBlock runRegs with events := [{ rst := false, tick := false, cmd := none }] }.nextEvent =
      { rst := false, tick := false, cmd := none } := by decide

/-- A state of the run phase with a travelled speed, an alert and a recorded error keeps `LegalState`. -/
def legalRegs : Regs :=
  { runRegs with
    speedAvg := -32768#16, speedAvgAbs := 32768#16, speedBlend := 32768#16, flagsIn := 255#16,
    cause := 10#4, alert := 0x08140A08#32, ponTaps := 2#8, errCause := 8#4, errWord := 0x00650D01#32 }

theorem test_witness_StepKeepsInvariant : LegalState (strobed legalRegs) ∧ ∃ t, step (strobed legalRegs) = .next t :=
  ⟨⟨by decide, by decide, by decide, by decide, by decide, ⟨.h, by decide⟩, by decide, by decide, by decide, by decide⟩, _, rfl⟩

/-- The hypothesis that an event carries no LDI or LDHI, at an event that carries a command. -/
theorem test_witness_no_load (x : Regs) :
    ∀ w i, (commanded 0x00000022#32 x).nextEvent.cmd = some w → decode w = .ok i → isLoad i = false := by
  intro w i hw hd
  have h : w = 0x00000022#32 := by simpa [commanded, State.nextEvent] using hw.symm
  subst h
  have : i = .slowdown := by have e : decode 0x00000022#32 = .ok .slowdown := rfl
                             rw [e] at hd; cases hd; rfl
  subst this; rfl

theorem test_witness_no_load_strobe (x : Regs) :
    ∀ w i, (strobed x).nextEvent.cmd = some w → decode w = .ok i → isLoad i = false := by
  intro w i hw; cases hw

/-- Registers in the middle of the power-on sequence. -/
def tapRegs : Regs := { Regs.reset with ponState := 1#3, ponTimer := 9#16, ponTaps := 1#8, ponPress := 2#16 }

def windowRegs : Regs := { Regs.reset with ponState := 2#3, ponTaps := 2#8, ponPress := 4#16 }

theorem test_witness_PowerOnInvariantWithoutLoads : PonInv (strobed tapRegs).regs ∧ ∃ t, step (strobed tapRegs) = .next t :=
  ⟨⟨by decide, by decide, by decide, by decide, by decide⟩, _, rfl⟩

/-- A tick strobe that finds the given ports. -/
def strobedWith (v : Sample) (x : Regs) : State := { testBlock x with events := strobes 1, samples := [v] }

/-- The `PON_STATE` a step leaves. -/
def ponStateAfter (s : State) : Option (BitVec 3) :=
  match step s with
  | .next t => some t.regs.ponState
  | _ => none

theorem test_witness_PowerOnTransitionsWithoutLoads_run :
    (strobed runRegs).nextEvent.rst = false ∧ (strobed runRegs).regs.ponState = 4#3 := by decide

theorem test_witness_PowerOnTransitionsWithoutLoads_calibrate :
    (strobed windowRegs).nextEvent.rst = false ∧ windowRegs.ponState ≠ 3#3 ∧
      ponStateAfter (strobedWith { nominalPorts with button := 1#1 } windowRegs) = some 3#3 := by decide

theorem test_witness_PowerOnTransitionsWithoutLoads_window :
    tapRegs.ponState ≠ 2#3 ∧ ponStateAfter (strobedWith { nominalPorts with thrMax := 1#1 } tapRegs) = some 2#3 :=
  by decide

theorem test_witness_DeratingNeverRises :
    (commanded 0x00000022#32 runRegs).nextEvent.rst = false ∧ ∃ t, step (commanded 0x00000022#32 runRegs) = .next t :=
  ⟨rfl, _, rfl⟩

theorem test_witness_HaltedBlockHolds_strobe : (strobed haltedRegs).regs.poweroff = 1#1 ∧
    (strobed haltedRegs).nextEvent.rst = false ∧ (∃ t, step (strobed haltedRegs) = .next t) ∧
    (strobed haltedRegs).nextEvent.tick = true := ⟨rfl, rfl, ⟨_, rfl⟩, rfl⟩

theorem test_witness_HaltedBlockHolds_command : (commanded 0x00000029#32 haltedRegs).regs.poweroff = 1#1 ∧
    (commanded 0x00000029#32 haltedRegs).nextEvent.rst = false ∧
    (∃ t, step (commanded 0x00000029#32 haltedRegs) = .next t) ∧
    (commanded 0x00000029#32 haltedRegs).nextEvent.cmd = some 0x00000029#32 ∧
    (0x00000029#32 : Word).toNat % 256 ≠ 0x03 := ⟨rfl, rfl, ⟨_, rfl⟩, rfl, by decide⟩

/-- XITION at both bounds of the dead-band enables (95_test_vectors.md X3). -/
def enableRegs : Regs := { runRegs with flagsIn := 8#16, cmdSteer := -50#16, cmdSpeed := 50#16 }

theorem test_witness_EnableOnlyThroughInterlock : (∀ sel imm, Instr.xition ≠ .ldi sel imm) ∧
    (testBlock enableRegs).regs.enable = 0#1 ∧
    ∃ t, exec .xition (testBlock enableRegs) = .next t ∧ t.regs.enable = 1#1 := ⟨nofun, rfl, _, rfl, by decide⟩

/-- A block without the test port, with two strobes to come. -/
def portlessBlock : State :=
  { testBlock Regs.reset with
    params := noTestPort
    events := strobes 2
    samples := [nominalPorts] }

theorem test_witness_NoErrorsWithoutTestPort : portlessBlock.params.testPort = false ∧
    portlessBlock.regs.errCause = 0#4 ∧ portlessBlock.rdata = 0#32 ∧ ∃ t, core.run 1 portlessBlock = .next t :=
  ⟨rfl, rfl, rfl, _, rfl⟩

theorem test_witness_PowerOnKeepsOutputs : portlessBlock.params.testPort = false ∧ portlessBlock.regs.ponState ≠ 4#3 ∧
    portlessBlock.nextEvent.rst = false ∧ ∃ t, step portlessBlock = .next t := ⟨rfl, by decide, rfl, _, rfl⟩

theorem test_witness_HaltedCommandsRecordHalted :
    (testBlock haltedRegs).regs.poweroff = 1#1 ∧ Instr.clrerr ≠ .nop ∧ ∀ sel, Instr.clrerr ≠ .rd sel :=
  ⟨rfl, by decide, by decide⟩

theorem test_witness_ReservedSelectorsRaise_running :
    0x27 ≤ (0x27#6 : Sel).toNat ∧ (testBlock runRegs).regs.poweroff = 0#1 := by decide

theorem test_witness_ReservedSelectorsRaise_any : 0x27 ≤ (0x3F#6 : Sel).toNat := by decide

theorem test_witness_LoadsRefuseByName_readOnly :
    (testBlock runRegs).regs.poweroff = 0#1 ∧
      Reg.errWord ∈ [Reg.outL, .outR, .speedAvg, .speedAvgAbs, .speedBlend, .tempFilt, .poweroff, .cause,
      .alert, .fbStrobe, .errCause, .errWord] := by decide

theorem test_witness_LoadsRefuseByName_value :
    100 < (101#16 : Half).toNat ∧ 1 < (2#16 : Half).toNat ∧ 255 < (256#16 : Half).toNat ∧
      4 < (5#16 : Half).toNat ∧
      2 < (3#16 : Half).toNat := by decide

theorem test_witness_LoadsRefuseByName_notWide :
    Reg.ponPress ∈ [Reg.cmdSteer, .cmdSpeed, .rsSteer, .rsSpeed, .motL, .motR, .sdc, .spdL, .spdR, .tempRaw, .bat,
      .faultL, .faultR, .flagsIn, .enable, .backward, .ponState, .ponTimer, .ponTaps, .ponPress] := by decide

theorem test_witness_PhaseAndBuildErrors_powerOn :
    (testBlock Regs.reset).regs.poweroff = 0#1 ∧ (testBlock Regs.reset).regs.ponState ≠ 4#3 := by decide

theorem test_witness_PhaseAndBuildErrors_run :
    (testBlock runRegs).regs.poweroff = 0#1 ∧ (testBlock runRegs).regs.ponState = 4#3 := by decide

theorem test_witness_PhaseAndBuildErrors_build :
    { testBlock runRegs with params := noBrake }.regs.poweroff = 0#1 ∧ noBrake.ebrakeEn = false := by decide

/-- Registers with an error on record. -/
def errRegs : Regs := { runRegs with errCause := 1#4, errWord := 0xFF#32 }

theorem test_witness_FirstErrorIsKept_exec : (testBlock errRegs).regs.errCause ≠ 0#4 ∧ Instr.ponstep ≠ .clrerr ∧
    ∃ t, exec .ponstep (testBlock errRegs) = .next t := ⟨by decide, by decide, _, rfl⟩

theorem test_witness_FirstErrorIsKept_step : (commanded 0x00000005#32 errRegs).regs.errCause ≠ 0#4 ∧
    (commanded 0x00000005#32 errRegs).nextEvent.rst = false ∧
    (∀ w, (commanded 0x00000005#32 errRegs).nextEvent.cmd = some w → w ≠ 0x00000004#32) ∧
    ∃ t, step (commanded 0x00000005#32 errRegs) = .next t :=
  ⟨by decide, rfl, fun w h => by cases h; decide, _, rfl⟩

theorem test_witness_LdiWritesLegalValue_sdc :
    (testBlock runRegs).regs.poweroff = 0#1 ∧
      Reg.sdc ∉ [Reg.outL, .outR, .speedAvg, .speedAvgAbs, .speedBlend, .tempFilt, .poweroff, .cause,
      .alert, .fbStrobe, .errCause, .errWord] ∧
      (Reg.sdc = .sdc → (100#16 : Half).toNat ≤ 100) ∧
      (Reg.sdc = .enable ∨ Reg.sdc = .backward → (100#16 : Half).toNat ≤ 1) ∧
      (Reg.sdc = .faultL ∨ Reg.sdc = .faultR ∨ Reg.sdc = .flagsIn → (100#16 : Half).toNat ≤ 255) ∧
      (Reg.sdc = .ponState → (100#16 : Half).toNat ≤ 4) ∧ (Reg.sdc = .ponTaps → (100#16 : Half).toNat ≤ 2) := by decide

theorem test_witness_LdiWritesLegalValue_enable :
    (testBlock runRegs).regs.poweroff = 0#1 ∧
      Reg.enable ∉ [Reg.outL, .outR, .speedAvg, .speedAvgAbs, .speedBlend, .tempFilt, .poweroff, .cause,
      .alert, .fbStrobe, .errCause, .errWord] ∧
      (Reg.enable = .sdc → (1#16 : Half).toNat ≤ 100) ∧
      (Reg.enable = .enable ∨ Reg.enable = .backward → (1#16 : Half).toNat ≤ 1) ∧
      (Reg.enable = .faultL ∨ Reg.enable = .faultR ∨ Reg.enable = .flagsIn → (1#16 : Half).toNat ≤ 255) ∧
      (Reg.enable = .ponState → (1#16 : Half).toNat ≤ 4) ∧ (Reg.enable = .ponTaps → (1#16 : Half).toNat ≤ 2) :=
  by decide

theorem test_witness_LdiWritesLegalValue_backward :
    (testBlock runRegs).regs.poweroff = 0#1 ∧
      Reg.backward ∉ [Reg.outL, .outR, .speedAvg, .speedAvgAbs, .speedBlend, .tempFilt, .poweroff, .cause,
      .alert, .fbStrobe, .errCause, .errWord] ∧
      (Reg.backward = .sdc → (1#16 : Half).toNat ≤ 100) ∧
      (Reg.backward = .enable ∨ Reg.backward = .backward → (1#16 : Half).toNat ≤ 1) ∧
      (Reg.backward = .faultL ∨ Reg.backward = .faultR ∨ Reg.backward = .flagsIn → (1#16 : Half).toNat ≤ 255) ∧
      (Reg.backward = .ponState → (1#16 : Half).toNat ≤ 4) ∧ (Reg.backward = .ponTaps → (1#16 : Half).toNat ≤ 2) :=
  by decide

theorem test_witness_LdiWritesLegalValue_flags :
    (testBlock runRegs).regs.poweroff = 0#1 ∧
      Reg.flagsIn ∉ [Reg.outL, .outR, .speedAvg, .speedAvgAbs, .speedBlend, .tempFilt, .poweroff, .cause,
      .alert, .fbStrobe, .errCause, .errWord] ∧
      (Reg.flagsIn = .sdc → (255#16 : Half).toNat ≤ 100) ∧
      (Reg.flagsIn = .enable ∨ Reg.flagsIn = .backward → (255#16 : Half).toNat ≤ 1) ∧
      (Reg.flagsIn = .faultL ∨ Reg.flagsIn = .faultR ∨ Reg.flagsIn = .flagsIn → (255#16 : Half).toNat ≤ 255) ∧
      (Reg.flagsIn = .ponState → (255#16 : Half).toNat ≤ 4) ∧ (Reg.flagsIn = .ponTaps → (255#16 : Half).toNat ≤ 2) :=
  by decide

theorem test_witness_LdiWritesLegalValue_fault :
    (testBlock runRegs).regs.poweroff = 0#1 ∧
      Reg.faultL ∉ [Reg.outL, .outR, .speedAvg, .speedAvgAbs, .speedBlend, .tempFilt, .poweroff, .cause,
      .alert, .fbStrobe, .errCause, .errWord] ∧
      (Reg.faultL = .sdc → (255#16 : Half).toNat ≤ 100) ∧
      (Reg.faultL = .enable ∨ Reg.faultL = .backward → (255#16 : Half).toNat ≤ 1) ∧
      (Reg.faultL = .faultL ∨ Reg.faultL = .faultR ∨ Reg.faultL = .flagsIn → (255#16 : Half).toNat ≤ 255) ∧
      (Reg.faultL = .ponState → (255#16 : Half).toNat ≤ 4) ∧ (Reg.faultL = .ponTaps → (255#16 : Half).toNat ≤ 2) :=
  by decide

theorem test_witness_LdiWritesLegalValue_ponState :
    (testBlock runRegs).regs.poweroff = 0#1 ∧
      Reg.ponState ∉ [Reg.outL, .outR, .speedAvg, .speedAvgAbs, .speedBlend, .tempFilt, .poweroff, .cause,
      .alert, .fbStrobe, .errCause, .errWord] ∧
      (Reg.ponState = .sdc → (4#16 : Half).toNat ≤ 100) ∧
      (Reg.ponState = .enable ∨ Reg.ponState = .backward → (4#16 : Half).toNat ≤ 1) ∧
      (Reg.ponState = .faultL ∨ Reg.ponState = .faultR ∨ Reg.ponState = .flagsIn → (4#16 : Half).toNat ≤ 255) ∧
      (Reg.ponState = .ponState → (4#16 : Half).toNat ≤ 4) ∧ (Reg.ponState = .ponTaps → (4#16 : Half).toNat ≤ 2) :=
  by decide

theorem test_witness_LdiWritesLegalValue_ponTaps :
    (testBlock runRegs).regs.poweroff = 0#1 ∧
      Reg.ponTaps ∉ [Reg.outL, .outR, .speedAvg, .speedAvgAbs, .speedBlend, .tempFilt, .poweroff, .cause,
      .alert, .fbStrobe, .errCause, .errWord] ∧
      (Reg.ponTaps = .sdc → (2#16 : Half).toNat ≤ 100) ∧
      (Reg.ponTaps = .enable ∨ Reg.ponTaps = .backward → (2#16 : Half).toNat ≤ 1) ∧
      (Reg.ponTaps = .faultL ∨ Reg.ponTaps = .faultR ∨ Reg.ponTaps = .flagsIn → (2#16 : Half).toNat ≤ 255) ∧
      (Reg.ponTaps = .ponState → (2#16 : Half).toNat ≤ 4) ∧ (Reg.ponTaps = .ponTaps → (2#16 : Half).toNat ≤ 2) :=
  by decide

theorem test_witness_LdiWritesLegalValue_signed :
    (testBlock runRegs).regs.poweroff = 0#1 ∧
      Reg.cmdSpeed ∉ [Reg.outL, .outR, .speedAvg, .speedAvgAbs, .speedBlend, .tempFilt, .poweroff, .cause,
      .alert, .fbStrobe, .errCause, .errWord] ∧
      (Reg.cmdSpeed = .sdc → (0x8000#16 : Half).toNat ≤ 100) ∧
      (Reg.cmdSpeed = .enable ∨ Reg.cmdSpeed = .backward → (0x8000#16 : Half).toNat ≤ 1) ∧
      (Reg.cmdSpeed = .faultL ∨ Reg.cmdSpeed = .faultR ∨ Reg.cmdSpeed = .flagsIn → (0x8000#16 : Half).toNat ≤ 255) ∧
      (Reg.cmdSpeed = .ponState → (0x8000#16 : Half).toNat ≤ 4) ∧
      (Reg.cmdSpeed = .ponTaps → (0x8000#16 : Half).toNat ≤ 2) := by decide

/-- The hypothesis that the block is not halted, all that PseudoInstructionsExpand, ReservedSelectorsRaise, ClrerrClearsRecord,
RateLimitersMoveByStep, RateLimiterConverges, LowPassFiltersAddIncrement, ShapingShiftsFloor, BlendAveragesAndRamps,
MixClampsBothCommands, OutInvertsPolarity, SafetyFirstRuleWins, SlowdownsLowerDerating, InactCountsAndPowersOff,
SampleLatchesPorts and FbstrobeDividesTicks ask of the state, with both phases of SampledRegistersDoNotReachTick. -/
theorem test_witness_running : (testBlock runRegs).regs.poweroff = 0#1 ∧ (testBlock runRegs).regs.ponState = 4#3 ∧
    (testBlock Regs.reset).regs.poweroff = 0#1 ∧ (testBlock Regs.reset).regs.ponState ≠ 4#3 := by decide

theorem test_witness_MixClampsBothCommands_noSteer :
    (testBlock runRegs).regs.poweroff = 0#1 ∧ (testBlock runRegs).regs.steer = 0#32 := by decide

theorem test_witness_LdhiReplacesHighHalf :
    Reg.tickCnt ∈ [Reg.accSteer, .accSpeed, .accTemp, .steer, .speed, .inactCnt, .tickCnt] := by decide

theorem test_witness_LowPassNeverOvershoots (coef : Half) : (testBlock runRegs).regs.poweroff = 0#1 ∧
    ∃ t, exec (.lpfv coef) (testBlock runRegs) = .next t := ⟨rfl, _, rfl⟩

/-- The clauses of that statement, at a target of 0: below it by 1 with coefficient 1, at it, and above it by 1. -/
theorem test_witness_LowPassNeverOvershoots_clauses :
    (-1 : Int) < 0 ∧ (0 - (-1 : Int)) * (1#16 : Half).toNat < 65536 ∧ (0 : Int) = 0 ∧ (0 : Int) < 1 ∧ (1#16 : Half) ≠ 0#16 := by
  decide

theorem test_witness_BlendIsMonotone : ∃ t t', exec .blend (testBlock { runRegs with spdL := 19#16, spdR := 19#16 }) = .next t ∧
    exec .blend (testBlock { runRegs with spdL := 20#16, spdR := 20#16 }) = .next t' ∧
    t.regs.speedAvgAbs.toNat ≤ t'.regs.speedAvgAbs.toNat ∧ testParams.blendHi ≤ t'.regs.speedAvgAbs.toNat :=
  ⟨_, _, rfl, rfl, by decide, by decide⟩

theorem test_witness_BlendIsMonotone_standstill : ∃ t, exec .blend (testBlock runRegs) = .next t ∧
    t.regs.speedAvgAbs = 0#16 := ⟨_, rfl, by decide⟩

theorem test_witness_DerateScalesTowardZero :
    (testBlock runRegs).regs.poweroff = 0#1 ∧ (testBlock runRegs).regs.sdc.toNat ≤ 100 := by decide

theorem test_witness_EbrakeOpposesTravel_forward :
    (testBlock runRegs).regs.poweroff = 0#1 ∧ (testBlock runRegs).params.ebrakeEn = true ∧
      (0#16 : Half).toNat / 16 % 2 = 0 ∧
      (-1#32 : Word).toInt < 0 ∧ 0 < (1#16 : Half).toInt := by decide

theorem test_witness_EbrakeOpposesTravel_reverse :
    (0x10#16 : Half).toNat / 16 % 2 = 1 ∧ 0 < (1#32 : Word).toInt ∧ (0xFFFF#16 : Half).toInt < 0 ∧
      (0#16 : Half).toInt = 0 := by decide

theorem test_witness_EbrakeNeverPushes :
    ∃ t, exec .ebrake (testBlock { runRegs with speedBlend := 32768#16, speed := 0x80000000#32 }) = .next t ∧
      (32768#16 : Half).toNat ≤ 32768 ∧ (testBlock runRegs).params.ebrakeEn = true := ⟨_, rfl, by decide, by decide⟩

theorem test_witness_XitionInterlockedTransition_due :
    enableRegs.flagsIn.toNat / 8 % 2 ≠ enableRegs.enable.toNat ∧ enableRegs.faultL = 0#8 ∧
      enableRegs.faultR = 0#8 ∧
      (-testParams.dbEn ≤ enableRegs.cmdSteer.toInt ∧ enableRegs.cmdSteer.toInt ≤ testParams.dbEn) ∧
      (-testParams.dbEn ≤ enableRegs.cmdSpeed.toInt ∧ enableRegs.cmdSpeed.toInt ≤ testParams.dbEn) :=
  by decide

theorem test_witness_XitionInterlockedTransition_not : ¬ ((51#16 : Half).toInt ≤ testParams.dbEn) := by decide

theorem test_witness_InactivityPowersOffExactly :
    (testBlock runRegs).regs.inactCnt = 0#32 ∧
      (-testParams.dbInact ≤ runRegs.motL.toInt ∧ runRegs.motL.toInt ≤ testParams.dbInact) ∧
      (-testParams.dbInact ≤ runRegs.motR.toInt ∧ runRegs.motR.toInt ≤ testParams.dbInact) ∧
      4 ≤ testParams.inactN + 1 := by decide

theorem test_witness_SampleLatchesPorts : (strobed runRegs).samples = nominalPorts :: [] := by decide

theorem test_witness_TickCompletes :
    (strobed runRegs).regs.poweroff = 0#1 ∧ (strobed runRegs).regs.ponState = 4#3 := by decide

theorem test_witness_TickIsItsStagesInOrder : ∃ t, exec .tick (strobed runRegs) = .next t ∧ t.regs.poweroff = 0#1 :=
  ⟨_, rfl, by decide⟩

theorem test_witness_DeadBatteryAtStandstillPowersOff :
    runRegs.poweroff = 0#1 ∧ runRegs.ponState = 4#3 ∧
      (strobedWith { nominalPorts with bat := 3299#16, spdL := 1#16 } runRegs).portValues.bat.toInt < testParams.batDead ∧
      Int.tdiv ((1#16 : Half).toInt + (0#16 : Half).toInt) 2 = 0 := by decide

theorem test_witness_PonstepWaitsForReleaseAndCalibration :
    (testBlock Regs.reset).regs.ponState = 0#3 ∧
      (testBlock { Regs.reset with ponState := 3#3 }).regs.ponState = 3#3 := by decide

theorem test_witness_PonstepDetectsTaps :
    (strobed tapRegs).regs.poweroff = 0#1 ∧ (strobed tapRegs).regs.ponState = 1#3 ∧
      (strobed tapRegs).regs.ponTaps.toNat ≤ 2 ∧ tapRegs.ponTaps = 1#8 := by decide

/-- The boundary count 2 that a load leaves, with a press that ends. -/
def loadedTapRegs : Regs := { tapRegs with ponTaps := 2#8 }

theorem test_witness_PonstepDetectsTaps_loaded :
    (strobed loadedTapRegs).regs.poweroff = 0#1 ∧ (strobed loadedTapRegs).regs.ponState = 1#3 ∧
      (strobed loadedTapRegs).regs.ponTaps.toNat ≤ 2 ∧ loadedTapRegs.ponTaps = 2#8 ∧
      ponStateAfter (strobedWith { nominalPorts with thrMax := 1#1 } loadedTapRegs) = some 2#3 := by decide

theorem test_witness_PonstepCalibrationWindow :
    (strobed windowRegs).regs.poweroff = 0#1 ∧ (strobed windowRegs).regs.ponState = 2#3 := by decide

end Sys2Proof.Machine
end

/-! ## The state family: reset, the register map, reserved selectors, what every step keeps -/

namespace Sys2Proof.Machine

/-! ### Reset (10_state.md R50) -/

theorem regGet_reset {r : Reg} (h : r ≠ .sdc) : regGet Regs.reset r = 0 := by
  cases r with
  | sdc => exact absurd rfl h
  | _ => rfl

/-- The output ports of a block right after reset: all 0 (R45, R50). -/
theorem outputs_of_reset {t : State} (hregs : t.regs = Regs.reset) (hrdata : t.rdata = 0#32) : t.outputs = {
    motL := 0#16, motR := 0#16, motorEn := 0#1, alert := 0#32, backward := 0#1, poweroff := 0#1,
    fbStrobe := 0#1, calActive := 0#1, run := 0#1, err := 0#1, rdata := 0#32 } := by
  simp only [State.outputs, hregs, hrdata]; rfl

theorem step_of_rst {s : State} (h : s.nextEvent.rst = true) : step s = .next (resetBlock s.eventTaken) := by
  simp [step, eventAction, h]

/-- What arrives together with reset is discarded (70_reset_and_hazards.md R210). -/
theorem eventTaken_events_of_rst {s : State} (h : s.nextEvent.rst = true) : s.eventTaken.events = s.events.tail := by
  simp [eventTaken_events, eventLeftover, h]

/-- Settles O9: the step is the reset of R50. -/
theorem resetEventRestartsBlock : Obligations.ResetEventRestartsBlock := by
  intro s h
  exact ⟨resetBlock s.eventTaken, step_of_rst h, rfl, fun r hr => regGet_reset hr, rfl, by simp, by simp,
    eventTaken_events_of_rst h, outputs_of_reset rfl rfl⟩

/-- Settles O10: `resetWith` takes the reset registers and keeps its parameters. -/
theorem resetValues : Obligations.ResetValues :=
  ⟨fun _ => ⟨rfl, fun _ hr => regGet_reset hr, rfl, rfl, outputs_of_reset rfl rfl⟩, Config.resetParams, rfl⟩

/-! ### The register map and its reserved selectors (R21, R24) -/

theorem regAt_eq_none_iff (sel : Sel) : 0x27 ≤ sel.toNat ↔ regAt sel = none := by
  constructor
  · exact regAt_eq_none_of_le
  · intro h
    by_contra hlt
    obtain ⟨r, hr⟩ := regAt_isSome_of_lt (not_le.mp hlt)
    simp [h] at hr

/-- Settles O32: the table by evaluation, the selectors by the two lemmas on `regAt`. -/
theorem registerMap : Obligations.RegisterMap := ⟨rfl, regAt_regSel, regAt_eq_none_iff⟩

/-- A command that runs into an error leaves the record and nothing else (60_exceptions.md R192, R194). -/
theorem exec_of_error {s : State} {i : Instr} {e : CmdError} (hexec : exec i s = finish i s (commandResult s i))
    (herror : commandResult s i = .error e) : exec i s = .next (errorRecorded s (errorCode e) (encode i)) := by
  rw [hexec, herror]; rfl

theorem loadImmediate_reserved {sel : Sel} (h : 0x27 ≤ sel.toNat) (imm : Half) (s : State) :
    loadImmediate sel imm s = .error .badSelector := by
  simp [loadImmediate, regAt_eq_none_of_le h]

theorem loadHigh_reserved {sel : Sel} (h : 0x27 ≤ sel.toNat) (imm : Half) (s : State) :
    loadHigh sel imm s = .error .badSelector := by
  simp [loadHigh, regAt_eq_none_of_le h]

theorem readRegister_reserved {sel : Sel} (h : 0x27 ≤ sel.toNat) (s : State) :
    readRegister sel s = .error .badSelector := by
  simp [readRegister, regAt_eq_none_of_le h]

/-- Settles O23: the three commands end in BAD_SELECTOR, whose code is 3. -/
theorem reservedSelectorsRaise : Obligations.ReservedSelectorsRaise := fun s sel imm hsel =>
  ⟨fun hrun => exec_of_error (exec_running s hrun (.ldi sel imm)) (loadImmediate_reserved hsel imm s),
    fun hrun => exec_of_error (exec_running s hrun (.ldhi sel imm)) (loadHigh_reserved hsel imm s),
    exec_of_error (exec_exempt s (.inr ⟨sel, rfl⟩)) (readRegister_reserved hsel s)⟩

/-! ### The alert word (R39) -/

/-- The fields of the alert word by place value. -/
theorem alertWord_toNat (p : Params) (id : PatternId) : (alertWord p id).toNat =
    (patternNumber id).toNat * 16777216 + (patternOf p id).period.toNat * 65536 + (patternOf p id).on.toNat * 256
      + (patternOf p id).count.toNat := by
  have hcount := toNat_append_add (0#4 ++ patternNumber id ++ (patternOf p id).period ++ (patternOf p id).on)
    (patternOf p id).count
  have hon := toNat_append_add (0#4 ++ patternNumber id ++ (patternOf p id).period) (patternOf p id).on
  have hperiod := toNat_append_add (0#4 ++ patternNumber id) (patternOf p id).period
  have hid := toNat_append_add 0#4 (patternNumber id)
  refine hcount.trans ?_
  rw [hon, hperiod, hid]
  simp
  omega

theorem alertWord_silence (p : Params) : alertWord p .silence = 0#32 :=
  BitVec.eq_of_toNat_eq (by simp [alertWord_toNat, patternNumber, patternOf])

/-- Settles O46: each row of the list names its pattern's number and parameters. -/
theorem alertWordFields : Obligations.AlertWordFields := by
  intro p
  refine ⟨alertWord_silence p, fun q hq => ?_⟩
  have hrow : (patternNumber q.1).toNat = q.2.1 ∧ patternOf p q.1 = q.2.2 := by
    simp only [List.mem_cons, List.not_mem_nil, or_false] at hq
    rcases hq with rfl | rfl | rfl | rfl | rfl | rfl | rfl | rfl | rfl <;> exact ⟨rfl, rfl⟩
  obtain ⟨hnumber, hpattern⟩ := hrow
  rw [alertWord_toNat, hnumber, hpattern]

/-! ### The legal ranges and ties: which registers they speak of, and reset -/

/-- The registers that `LegalState` speaks of. -/
def constrained (x : Regs) :=
  (x.sdc, x.speedAvg, x.speedAvgAbs, x.speedBlend, x.flagsIn, x.cause, x.alert, x.ponState, x.ponTaps, x.errCause,
    x.errWord)

/-- `LegalState` depends on the constrained registers and the parameters alone. -/
theorem LegalState.congr {s t : State} (hs : LegalState s) (hparams : t.params = s.params)
    (hview : constrained t.regs = constrained s.regs) : LegalState t := by
  simp only [constrained, Prod.mk.injEq] at hview
  obtain ⟨hsdc, havg, havgAbs, hblend, hflags, hcause, halert, hponState, hponTaps, herrCause, herrWord⟩ := hview
  constructor
  case sdc => exact hsdc ▸ hs.sdc
  case avgAbs => rw [havg, havgAbs]; exact hs.avgAbs
  case blend => exact hblend ▸ hs.blend
  case flags => exact hflags ▸ hs.flags
  case cause => exact hcause ▸ hs.cause
  case alert => rw [halert, hparams]; exact hs.alert
  case ponState => exact hponState ▸ hs.ponState
  case ponTaps => exact hponTaps ▸ hs.ponTaps
  case errCause => exact herrCause ▸ hs.errCause
  case errWord => rw [herrCause, herrWord]; exact hs.errWord

theorem legal_resetWith (p : Params) : LegalState (State.resetWith p) where
  sdc := (by decide : Regs.reset.sdc.toNat ≤ 100)
  avgAbs := (by decide : Regs.reset.speedAvgAbs.toNat = Regs.reset.speedAvg.toInt.natAbs)
  blend := Nat.zero_le _
  flags := Nat.zero_le _
  cause := Nat.zero_le _
  alert := ⟨.silence, (alertWord_silence p).symm⟩
  ponState := Nat.zero_le _
  ponTaps := Nat.zero_le _
  errCause := Nat.zero_le _
  errWord := fun _ => rfl

/-- Settles O14: the machine's reset state is `resetWith` of one parameter set. -/
theorem resetHasInvariant : Obligations.ResetHasInvariant := ⟨legal_resetWith, legal_resetWith _⟩

/-! ### Commands that write constrained registers keep the legal ranges -/

section
variable {s : State}

theorem legal_raiseError (hs : LegalState s) (e : CmdError) (w : Word) : LegalState (raiseError e w s) := by
  by_cases h : s.regs.errCause = 0#4
  · rw [raiseError, recordError_first h]
    exact { hs with errCause := errorCode_le e, errWord := fun hz => absurd hz (errorCode_ne_zero e) }
  · rw [raiseError, recordError_kept h]; exact hs

theorem legal_clearRecord (hs : LegalState s) : LegalState (onRegs (fun _ x => clearRecord x) s) :=
  { hs with errCause := Nat.zero_le _, errWord := fun _ => rfl }

theorem packFlags_le (v : Sample) : (packFlags v).toNat ≤ 255 := by
  rw [packFlags_toNat]; omega

theorem legal_samplePorts (hs : LegalState s) : LegalState (samplePorts s) :=
  LegalState.congr (s := { s with regs := latch s.portValues s.regs }) { hs with flags := packFlags_le _ } (by simp) rfl

theorem legal_blendSpeed (hs : LegalState s) : LegalState (onRegs blendSpeed s) :=
  have havg := averageSpeed_bounds s.regs
  have hblend := blendOf_bounds s.params (averageSpeed s.regs)
  { hs with
    avgAbs := by
      simp only [onRegs_regs, blendSpeed]
      rw [absInt_eq_natAbs, toInt_store16 havg.1 havg.2, toNat_store] <;> omega
    blend := by
      simp only [onRegs_regs, blendSpeed]
      rw [toNat_store] <;> omega }

theorem slowedDown_le (p : Params) (x : Regs) : (slowedDown p x).toNat ≤ x.sdc.toNat := by
  rw [slowedDown_toNat]; exact Nat.sub_le _ _

theorem arbitrate_sdc_le (p : Params) (x : Regs) : (arbitrate p x).sdc.toNat ≤ x.sdc.toNat := by
  simp only [arbitrate_eq]
  split
  · exact slowedDown_le p x
  · exact le_rfl

theorem legal_slowDown (hs : LegalState s) : LegalState (onRegs slowDown s) :=
  { hs with sdc := (slowedDown_le _ _).trans hs.sdc }

theorem ruleNumber_le (r : SafetyRule) : (ruleNumber r).toNat ≤ 11 := by cases r <;> decide

theorem legal_arbitrate (hs : LegalState s) : LegalState (onRegs arbitrate s) where
  sdc := (arbitrate_sdc_le _ _).trans hs.sdc
  avgAbs := by simpa using hs.avgAbs
  blend := by simpa using hs.blend
  flags := by simpa using hs.flags
  cause := ruleNumber_le _
  alert := ⟨_, rfl⟩
  ponState := by simpa using hs.ponState
  ponTaps := by simpa using hs.ponTaps
  errCause := by simpa using hs.errCause
  errWord := by simpa using hs.errWord

theorem legal_transition (hs : LegalState s) : LegalState (onRegs transition s) := by
  by_cases h : transitionDue s.params s.regs
  · rw [onRegs, transition_of_due _ _ h]
    exact { hs with alert := ⟨.transition, rfl⟩ }
  · rw [onRegs, transition_of_not_due _ _ h]; exact hs

/-! ### TICK -/

theorem legal_shapingStages (hs : LegalState s) : LegalState (onRegs shapingStages s) :=
  (legal_blendSpeed hs).congr rfl (by simp only [onRegs_regs]; rw [shapingStages_frame]; rfl)

theorem legal_outputStages (hs : LegalState s) : LegalState (onRegs outputStages s) :=
  hs.congr rfl (by simp [constrained])

theorem legal_safetyStages (hs : LegalState s) : LegalState (onRegs safetyStages s) :=
  (legal_transition (legal_arbitrate hs)).congr rfl (by simp [constrained, safetyStages])

/-- TICK as its groups of stages, each of which keeps the legal ranges (44_sequencer.md R166). -/
theorem runTick_eq_onRegs (s : State) :
    runTick s = onRegs safetyStages (onRegs outputStages (onRegs shapingStages (samplePorts s))) := by
  simp only [runTick, onRegs]

theorem legal_runTick (hs : LegalState s) : LegalState (runTick s) := by
  rw [runTick_eq_onRegs]
  exact legal_safetyStages (legal_outputStages (legal_shapingStages (legal_samplePorts hs)))

end

/-! ### PONSTEP -/

/-- The legal ranges of the power-on registers that are narrower than their types (R41). -/
def PonLegal (x : Regs) : Prop := x.ponState.toNat ≤ 4 ∧ x.ponTaps.toNat ≤ 2

section
variable {x : Regs}

theorem ponLegal_ponEnter {n : BitVec 3} (hn : n.toNat ≤ 4) (x : Regs) : PonLegal (ponEnter n x) :=
  ⟨hn, Nat.zero_le _⟩

theorem ponLegal_toRun (x : Regs) : PonLegal (toRun x) := ponLegal_ponEnter (by decide) x

theorem ponLegal_toCalWindow (hx : PonLegal x) : PonLegal (toCalWindow x) := ⟨(by decide : (2#3).toNat ≤ 4), hx.2⟩

theorem ponLegal_ponWaitRelease (p : Params) (hx : PonLegal x) : PonLegal (ponWaitRelease p x) := by
  unfold ponWaitRelease
  split
  · split
    · exact ponLegal_ponEnter (by decide) x
    · exact ponLegal_toRun x
  · exact hx

/-- A tap is counted only below 2, so the count stays legal. -/
theorem ponLegal_ponTapButton (p : Params) (hx : PonLegal x) (htaps : x.ponTaps ≠ 2#8) :
    PonLegal (ponTapButton p x) := by
  obtain ⟨hstate, hle⟩ := hx
  have hadd : (x.ponTaps + 1#8).toNat ≤ 2 := by
    have hne : x.ponTaps.toNat ≠ 2 := fun h => htaps (BitVec.eq_of_toNat_eq h)
    rw [BitVec.toNat_add]
    simp
    omega
  unfold ponTapButton
  split
  · exact ⟨hstate, hle⟩
  · split
    · split
      · exact ⟨hstate, hadd⟩
      · exact ponLegal_toRun x
    · exact ⟨hstate, hle⟩

theorem ponLegal_ponTapDecide (p : Params) (hx : PonLegal x) : PonLegal (ponTapDecide p x) := by
  unfold ponTapDecide
  split
  · split
    · exact ponLegal_toCalWindow hx
    · split
      · exact ponLegal_toRun x
      · exact hx
  · exact hx

theorem ponLegal_ponTapDetect (p : Params) (hx : PonLegal x) : PonLegal (ponTapDetect p x) := by
  simp only [ponTapDetect]
  split
  · exact ponLegal_toRun _
  · split
    · exact ponLegal_toCalWindow hx
    · next htaps => exact ponLegal_ponTapDecide p (ponLegal_ponTapButton p hx htaps)

theorem ponLegal_ponCalWindow (p : Params) (hx : PonLegal x) : PonLegal (ponCalWindow p x) := by
  simp only [ponCalWindow]
  split
  · split
    · exact ⟨(by decide : (3#3).toNat ≤ 4), hx.2⟩
    · exact hx
  · split
    · exact ponLegal_toRun _
    · exact hx

theorem ponLegal_ponCalActive (hx : PonLegal x) : PonLegal (ponCalActive x) := by
  unfold ponCalActive
  split
  · exact ponLegal_toRun x
  · exact hx

theorem ponLegal_ponPoll (p : Params) (hx : PonLegal x) : PonLegal (ponPoll p x) := by
  unfold ponPoll
  split
  · exact ponLegal_ponWaitRelease p hx
  · exact ponLegal_ponTapDetect p hx
  · exact ponLegal_ponCalWindow p hx
  · exact ponLegal_ponCalActive hx
  · exact hx

end

theorem legal_ponPoll {s : State} (hs : LegalState s) : LegalState (onRegs ponPoll s) := by
  obtain ⟨hstate, htaps⟩ := ponLegal_ponPoll s.params ⟨hs.ponState, hs.ponTaps⟩
  rw [onRegs, ponPoll_frame]
  exact { hs with ponState := hstate, ponTaps := htaps }

theorem legal_runPonstep {s : State} (hs : LegalState s) : LegalState (runPonstep s) :=
  legal_ponPoll (legal_samplePorts hs)

/-! ### The loads -/

theorem loadImmediate_ok {sel : Sel} {imm : Half} {s t : State} (h : loadImmediate sel imm s = .ok t) :
    ∃ r, regReadOnly r = false ∧ regLegal r (ldiValue r imm) = true ∧
      t = { s with regs := regSet s.regs (ldiValue r imm) r } := by
  unfold loadImmediate at h
  split at h
  · cases h
  · next r _ =>
    split at h
    · cases h
    · next hwritable =>
      split at h
      · next hlegal => exact ⟨r, by simpa using hwritable, hlegal, by simpa using h.symm⟩
      · cases h

theorem loadHigh_ok {sel : Sel} {imm : Half} {s t : State} (h : loadHigh sel imm s = .ok t) :
    ∃ r, regReadOnly r = false ∧ regWidth r = 32 ∧ t = { s with regs := regSet s.regs (ldhiValue s.regs r imm) r } := by
  unfold loadHigh at h
  split at h
  · cases h
  · next r _ =>
    split at h
    · cases h
    · next hwritable =>
      split at h
      · next hwide => exact ⟨r, by simpa using hwritable, hwide, by simpa using h.symm⟩
      · cases h

/-- A writable 32-bit register is legal with every value of its type (R21). -/
theorem regRange_of_wide {r : Reg} (hwritable : regReadOnly r = false) (hwide : regWidth r = 32) :
    (regLo r, regHi r) = if regSigned r then (-2147483648, 2147483647) else (0, 4294967295) := by
  cases r <;> first | rfl | exact absurd hwritable (by decide) | exact absurd hwide (by decide)

theorem regLegal_ldhiValue (x : Regs) (imm : Half) {r : Reg} (hwritable : regReadOnly r = false)
    (hwide : regWidth r = 32) : regLegal r (ldhiValue x r imm) = true := by
  have hrange := regRange_of_wide hwritable hwide
  have hlt := (ldhiPattern x r imm).isLt
  rw [regLegal, decide_eq_true_eq, ldhiValue]
  split at hrange <;> obtain ⟨hlo, hhi⟩ := Prod.mk.inj hrange <;> rw [hlo, hhi]
  · next hsigned => rw [if_pos hsigned]; exact ⟨toInt32_ge _, toInt32_le _⟩
  · next hunsigned => rw [if_neg hunsigned]; omega

/-- Writing a legal value to one register takes no register out of its legal range. -/
theorem regLegal_regSet (x : Regs) {v : Int} {r : Reg} (hv : regLegal r v = true) {q : Reg}
    (hq : regLegal q (regGet x q) = true) : regLegal q (regGet (regSet x v r) q) = true := by
  by_cases h : q = r
  · subst h; rwa [regGet_regSet_self x hv]
  · rwa [regGet_regSet_other x v h]

/-- The constrained registers that a load cannot write. -/
theorem regSet_keeps_readOnly (x : Regs) (v : Int) {r : Reg} (hwritable : regReadOnly r = false) :
    (regSet x v r).speedAvg = x.speedAvg ∧ (regSet x v r).speedAvgAbs = x.speedAvgAbs ∧
    (regSet x v r).speedBlend = x.speedBlend ∧ (regSet x v r).cause = x.cause ∧ (regSet x v r).alert = x.alert ∧
    (regSet x v r).errCause = x.errCause ∧ (regSet x v r).errWord = x.errWord := by
  cases r <;> first | exact ⟨rfl, rfl, rfl, rfl, rfl, rfl, rfl⟩ | cases hwritable

theorem legal_regSet {s : State} (hs : LegalState s) {v : Int} {r : Reg} (hwritable : regReadOnly r = false)
    (hv : regLegal r v = true) : LegalState { s with regs := regSet s.regs v r } := by
  obtain ⟨havg, havgAbs, hblend, hcause, halert, herrCause, herrWord⟩ := regSet_keeps_readOnly s.regs v hwritable
  have hrange {q : Reg} := regLegal_regSet s.regs hv (q := q)
  constructor
  case sdc => simpa [regLegal, regGet, regLo, regHi, hs.sdc] using @hrange .sdc
  case avgAbs => simpa only [havg, havgAbs] using hs.avgAbs
  case blend => simpa only [hblend] using hs.blend
  case flags => simpa [regLegal, regGet, regLo, regHi, hs.flags] using @hrange .flagsIn
  case cause => simpa only [hcause] using hs.cause
  case alert => simpa only [halert] using hs.alert
  case ponState => simpa [regLegal, regGet, regLo, regHi, hs.ponState] using @hrange .ponState
  case ponTaps => simpa [regLegal, regGet, regLo, regHi, hs.ponTaps] using @hrange .ponTaps
  case errCause => simpa only [herrCause] using hs.errCause
  case errWord => simpa only [herrCause, herrWord] using hs.errWord

/-! ### Every command and every step -/

theorem readRegister_ok {sel : Sel} {s t : State} (h : readRegister sel s = .ok t) :
    t.regs = s.regs ∧ t.params = s.params := by
  unfold readRegister at h
  split at h
  · cases h
  · cases h; exact ⟨rfl, rfl⟩

theorem commandResult_tick_ok {s t : State} (h : commandResult s .tick = .ok t) : t = runTick s := by
  simp only [commandResult] at h
  split at h
  · cases h; rfl
  · cases h

theorem commandResult_ponstep_ok {s t : State} (h : commandResult s .ponstep = .ok t) : t = runPonstep s := by
  simp only [commandResult] at h
  split at h
  · cases h
  · cases h; rfl

/-- The commands whose effect reaches a register that `LegalState` speaks of. -/
def writesConstrained : Instr → Bool
  | .ldi _ _ | .ldhi _ _ | .clrerr | .blend | .sample | .safety | .slowdown | .xition | .tick | .ponstep => true
  | _ => false

/-- The other commands leave all those registers, and the parameters, as they are. -/
theorem commandResult_keeps_constrained {s t : State} {i : Instr} (hi : writesConstrained i = false)
    (h : commandResult s i = .ok t) : constrained t.regs = constrained s.regs ∧ t.params = s.params := by
  cases i with
  | ldi | ldhi | clrerr | blend | sample | safety | slowdown | xition | tick | ponstep => cases hi
  | rd sel =>
    obtain ⟨hregs, hparams⟩ := readRegister_ok h
    exact ⟨by rw [hregs], hparams⟩
  | ebrake =>
    simp only [commandResult] at h
    split at h
    · cases h; simp [constrained]
    · cases h
  | _ => cases h; simp [constrained]

theorem commandResult_keeps_legal {s t : State} {i : Instr} (hs : LegalState s) (h : commandResult s i = .ok t) :
    LegalState t := by
  cases hi : writesConstrained i with
  | false =>
    obtain ⟨hview, hparams⟩ := commandResult_keeps_constrained hi h
    exact hs.congr hparams hview
  | true =>
    cases i with
    | ldi sel imm =>
      obtain ⟨r, hwritable, hlegal, rfl⟩ := loadImmediate_ok h
      exact legal_regSet hs hwritable hlegal
    | ldhi sel imm =>
      obtain ⟨r, hwritable, hwide, rfl⟩ := loadHigh_ok h
      exact legal_regSet hs hwritable (regLegal_ldhiValue s.regs imm hwritable hwide)
    | clrerr => cases h; exact legal_clearRecord hs
    | blend => cases h; exact legal_blendSpeed hs
    | sample => cases h; exact legal_samplePorts hs
    | safety => cases h; exact legal_arbitrate hs
    | slowdown => cases h; exact legal_slowDown hs
    | xition => cases h; exact legal_transition hs
    | tick => rw [commandResult_tick_ok h]; exact legal_runTick hs
    | ponstep => rw [commandResult_ponstep_ok h]; exact legal_runPonstep hs
    | _ => cases hi

theorem exec_keeps_legal {s t : State} {i : Instr} (hs : LegalState s) (h : exec i s = .next t) : LegalState t := by
  obtain hok | ⟨e, rfl⟩ := exec_cases s h
  · exact commandResult_keeps_legal hs hok
  · exact legal_raiseError hs e _

/-- Settles O13, by the cases of a step: each keeps the legal ranges of the state whose event has been taken. -/
theorem stepKeepsInvariant : Obligations.StepKeepsInvariant := by
  intro s t hs h
  have hs' : LegalState s.eventTaken := hs.congr (by simp) (by simp)
  obtain ⟨-, rfl⟩ | ⟨-, -, -, rfl⟩ | ⟨-, -, -, -, rfl⟩ | ⟨-, -, -, -, rfl⟩ | ⟨-, -, w, i, -, -, -, hexec⟩ |
    ⟨-, -, w, e, -, -, -, rfl⟩ | ⟨-, -, -, rfl⟩ := step_cases h
  · exact (legal_resetWith s.eventTaken.params).congr rfl rfl
  · exact hs'
  · exact legal_runTick hs'
  · exact legal_runPonstep hs'
  · exact exec_keeps_legal hs' hexec
  · exact legal_raiseError hs' e w
  · exact hs'

/-! ### The derating coefficient (R30, R51) -/

/-- A word that a block's own checks pass is the same command by its encoding alone: being halted or without EBRAKE only
refuses more (30_encoding.md R85). -/
theorem decode_of_decodeChecked {halted ebrakeEn : Bool} {w : Word} {i : Instr}
    (h : decodeChecked halted ebrakeEn w = .ok i) : decode w = .ok i := by
  simp only [decodeChecked] at h
  simp only [decode, decodeChecked]
  split at h
  · cases h
  · simp only [Bool.false_eq_true, false_and, if_false]
    cases hrow : opcodeRow (opcodeField w) (selField w) (immField w) with
    | none => simp [hrow] at h
    | some row =>
      simp only [hrow] at h
      split at h
      · cases h
      · simpa using h

theorem runTick_sdc_le (s : State) : (runTick s).regs.sdc.toNat ≤ s.regs.sdc.toNat := by
  simpa [runTick, safetyStages] using
    arbitrate_sdc_le s.params (outputStages s.params (shapingStages s.params (latch s.portValues s.regs)))

theorem runPonstep_sdc (s : State) : (runPonstep s).regs.sdc = s.regs.sdc := by simp [runPonstep]

theorem commandResult_sdc_le {s t : State} {i : Instr} (hload : isLoad i = false) (h : commandResult s i = .ok t) :
    t.regs.sdc.toNat ≤ s.regs.sdc.toNat := by
  cases hi : writesConstrained i with
  | false =>
    obtain ⟨hview, -⟩ := commandResult_keeps_constrained hi h
    exact (congrArg (fun v => v.1.toNat) hview).le
  | true =>
    cases i with
    | ldi | ldhi => cases hload
    | slowdown => cases h; exact slowedDown_le _ _
    | safety => cases h; exact arbitrate_sdc_le _ _
    | tick => rw [commandResult_tick_ok h]; exact runTick_sdc_le s
    | ponstep => rw [commandResult_ponstep_ok h, runPonstep_sdc]
    | clrerr | blend | sample | xition => cases h; simp
    | _ => cases hi

theorem exec_sdc_le {s t : State} {i : Instr} (hload : isLoad i = false) (h : exec i s = .next t) :
    t.regs.sdc.toNat ≤ s.regs.sdc.toNat := by
  obtain hok | ⟨e, rfl⟩ := exec_cases s h
  · exact commandResult_sdc_le hload hok
  · simp

/-- Settles O17, by the cases of a step: only SLOWDOWN's decrement writes SDC, alone or by the priority list. -/
theorem deratingNeverRises : Obligations.DeratingNeverRises := by
  intro s t hnoLoad hrst h
  rw [← eventTaken_regs s]
  obtain ⟨hreset, -⟩ | ⟨-, -, -, rfl⟩ | ⟨-, -, -, -, rfl⟩ | ⟨-, -, -, -, rfl⟩ | ⟨-, -, w, i, hcmd, -, hdec, hexec⟩ |
    ⟨-, -, w, e, -, -, -, rfl⟩ | ⟨-, -, -, rfl⟩ := step_cases h
  · simp [hrst] at hreset
  · exact le_rfl
  · exact runTick_sdc_le _
  · rw [runPonstep_sdc]
  · exact exec_sdc_le (hnoLoad w i hcmd (decode_of_decodeChecked hdec)) hexec
  · simp
  · exact le_rfl

end Sys2Proof.Machine

/-! ## The memory family: the order of events, and the events that do nothing -/

namespace Sys2Proof.Machine

/-! ### Every command and every event has a next state (60_exceptions.md R192) -/

theorem finish_goes_on (i : Instr) (s : State) (r : Except CmdError State) : ∃ t, finish i s r = .next t := by
  cases r with
  | ok t => exact ⟨t, finish_ok s i t⟩
  | error e => exact ⟨_, finish_error s i e⟩

theorem exec_goes_on (i : Instr) (s : State) : ∃ t, exec i s = .next t := by
  by_cases hexempt : i = .nop ∨ ∃ sel, i = .rd sel
  · rw [exec_exempt s hexempt]; exact finish_goes_on i s _
  · obtain hrunning | hhalted := poweroff_cases s
    · rw [exec_running s hrunning]; exact finish_goes_on i s _
    · exact ⟨_, exec_halted s hhalted (fun h => hexempt (.inl h)) fun sel h => hexempt (.inr ⟨sel, h⟩)⟩

theorem step_goes_on (s : State) : ∃ t, step s = .next t := by
  unfold step
  cases eventAction s s.nextEvent with
  | reset => exact ⟨_, rfl⟩
  | run i => exact exec_goes_on i s.eventTaken
  | reject e w => exact ⟨_, rfl⟩
  | idle => exact ⟨_, rfl⟩

/-! ### The tick goes first (20_memory.md R69) -/

@[simp] theorem runTick_events (s : State) : (runTick s).events = s.events := by simp [runTick]

@[simp] theorem runPonstep_events (s : State) : (runPonstep s).events = s.events := by simp [runPonstep]

/-- Whatever a strobe dispatches (44_sequencer.md R167), it leaves the events still to come as they are. -/
theorem events_of_step_tick {s t : State} (hrst : s.nextEvent.rst = false) (htick : s.nextEvent.tick = true)
    (h : step s = .next t) : t.events = s.eventTaken.events := by
  obtain ⟨hreset, -⟩ | ⟨-, -, -, rfl⟩ | ⟨-, -, -, -, rfl⟩ | ⟨-, -, -, -, rfl⟩ | ⟨-, hnoTick, -⟩ | ⟨-, hnoTick, -⟩ |
    ⟨-, hnoTick, -⟩ := step_cases h
  · simp [hrst] at hreset
  · rfl
  · exact runTick_events _
  · exact runPonstep_events _
  all_goals simp [htick] at hnoTick

/-- The command that arrived with a strobe stands in front of the events still to come (R69). -/
theorem eventTaken_events_of_tick_command {s : State} {w : Word}
    (h : s.nextEvent = { rst := false, tick := true, cmd := some w }) :
    s.eventTaken.events = { rst := false, tick := false, cmd := some w } :: s.events.tail := by
  rw [eventTaken_events, h]; rfl

/-! ### Events that do nothing -/

/-- Without a test port a command does nothing (10_state.md R44), and neither does an event that carries none. -/
theorem step_of_no_command {s : State} (hrst : s.nextEvent.rst = false) (htick : s.nextEvent.tick = false)
    (hcmd : s.nextEvent.cmd = none ∨ s.params.testPort = false) : step s = .next s.eventTaken := by
  have hidle : eventAction s s.nextEvent = .idle := by
    obtain hnone | hport := hcmd
    · simp [eventAction, hrst, htick, hnone]
    · cases hc : s.nextEvent.cmd <;> simp [eventAction, commandAction, hrst, htick, hc, hport]
  rw [step, hidle]

/-- Settles O11: the strobe's dispatch keeps the events still to come, and the other two events do nothing. -/
theorem tickBeforeCommandAndIdle : Obligations.TickBeforeCommandAndIdle := by
  refine ⟨fun s w h => ?_, fun s w h hport => ?_, fun s h => ?_⟩
  · obtain ⟨t, ht⟩ := step_goes_on s
    have hevents : t.events = s.eventTaken.events := events_of_step_tick (by rw [h]) (by rw [h]) ht
    exact ⟨t, ht, hevents.trans (eventTaken_events_of_tick_command h)⟩
  · exact step_of_no_command (by rw [h]) (by rw [h]) (.inr hport)
  · exact ⟨step_of_no_command (by rw [h]) (by rw [h]) (.inl (by rw [h])), eventTaken_regs s, eventTaken_rdata s⟩

end Sys2Proof.Machine

/-! ## The encoding family: words and commands, the generic checks, the command port, the pseudo-instructions -/

namespace Sys2Proof.Machine

/-! ### The row of a word (30_encoding.md R76 to R84) -/

/-- The word with the given fields in the format, and 0 in the format's reserved bits (R76 to R79). -/
def formatWord (fmt : Format) (op : Byte) (sel : Sel) (imm : Half) : Word :=
  match fmt with
  | .N => encodeN op
  | .I => encodeI op imm
  | .S => encodeS op sel imm
  | .R => encodeR op sel

/-- The reserved bits of a format: those its mask fixes, above the opcode. -/
def reservedMask (fmt : Format) : Word := fmt.mask &&& 0xFFFFFF00#32

/-- The row of R84 that a word's opcode selects, with the command read from the word's fields. -/
def wordRow (w : Word) : Option (Format × Instr) := opcodeRow (opcodeField w) (selField w) (immField w)

/-- What the table says of an assigned opcode's format and command, against the encoder, the well-formed commands and
the lists of opcodes and reserved bits that the statements use. -/
structure RowFacts (op : Byte) (sel : Sel) (imm : Half) (fmt : Format) (i : Instr) : Prop where
  word : encode i = formatWord fmt op sel imm
  wellFormed : i.wellFormed = (!fmt.hasSelector || Sel.implemented sel)
  reserved : reservedOfOpcode op.toNat = reservedMask fmt
  selector : op.toNat ∈ [0x01, 0x02, 0x03] ↔ fmt.hasSelector = true
  assigned : op.toNat ∈ assignedOpcodes

theorem rowFacts {op : Byte} {sel : Sel} {imm : Half} {fmt : Format} {i : Instr}
    (h : opcodeRow op sel imm = some (fmt, i)) : RowFacts op sel imm fmt i := by
  unfold opcodeRow at h
  generalize hn : op.toNat = n at h
  obtain rfl : op = BitVec.ofNat 8 n := by rw [← hn]; simp
  split at h <;> cases h <;> exact ⟨rfl, rfl, by decide, by decide, by decide⟩

theorem opcodeRow_of_assigned {op : Byte} (sel : Sel) (imm : Half) (h : op.toNat ∈ assignedOpcodes) :
    ∃ row, opcodeRow op sel imm = some row := by
  unfold opcodeRow
  split <;> first | exact ⟨_, rfl⟩ | simp_all [assignedOpcodes]

theorem unassigned_of_no_row {w : Word} (h : wordRow w = none) : w.toNat % 256 ∉ assignedOpcodes := by
  intro hassigned
  rw [← opcodeField_toNat] at hassigned
  obtain ⟨row, hrow⟩ := opcodeRow_of_assigned (selField w) (immField w) hassigned
  exact absurd (h.symm.trans hrow) (by simp)

theorem encodeI_eq_encodeS (op : Byte) (imm : Half) : encodeI op imm = encodeS op 0#6 imm :=
  BitVec.eq_of_toNat_eq (by rw [encodeI_toNat, encodeS_toNat]; simp)

/-- A word whose fixed bits are those of its opcode's format is made of its fields alone. -/
theorem formatWord_of_fixed {fmt : Format} {w : Word} (h : w &&& fmt.mask = (opcodeField w).setWidth 32) :
    formatWord fmt (opcodeField w) (selField w) (immField w) = w := by
  obtain ⟨-, hpair, hsel, himm⟩ := (fixedBits_iff fmt w (opcodeField w)).1 h
  conv => rhs; rw [word_eq_fields w, hpair]
  cases fmt with
  | N => rw [hsel (.inl rfl), himm (.inl rfl)]; rfl
  | I => rw [hsel (.inr rfl)]; exact encodeI_eq_encodeS (opcodeField w) (immField w)
  | S => rfl
  | R => rw [himm (.inr rfl)]; rfl

/-- The fixed bits are right exactly if no reserved bit is set. -/
theorem reserved_zero_iff (fmt : Format) (w : Word) :
    w &&& reservedMask fmt = 0#32 ↔ w &&& fmt.mask = (opcodeField w).setWidth 32 := by
  have hmask : fmt.mask = reservedMask fmt ||| 0xFF#32 := by cases fmt <;> decide
  have hdisjoint : reservedMask fmt &&& 0xFF#32 = 0#32 := by cases fmt <;> decide
  have hopcode : w &&& 0xFF#32 = (opcodeField w).setWidth 32 :=
    BitVec.eq_of_toNat_eq (by simp [opcodeField_toNat, Nat.and_two_pow_sub_one_eq_mod _ 8]; omega)
  have happart : (w &&& reservedMask fmt) &&& (w &&& 0xFF#32) = 0#32 := by
    calc (w &&& reservedMask fmt) &&& (w &&& 0xFF#32)
        = w &&& w &&& (reservedMask fmt &&& 0xFF#32) := by ac_rfl
      _ = 0#32 := by rw [hdisjoint, BitVec.and_zero]
  rw [hmask, BitVec.and_or_distrib_left, ← hopcode, ← BitVec.add_eq_or_of_and_eq_zero _ _ happart, add_eq_right]
  rfl

/-! ### Every command has its row, and no two commands share a word (R84, R86) -/

theorem encodedRow (i : Instr) : Laws.EncodedRow.Statement i := by
  cases i with
  | nop => exact Laws.EncodedRow.nop
  | ldi sel imm => exact Laws.EncodedRow.ldi sel imm
  | ldhi sel imm => exact Laws.EncodedRow.ldhi sel imm
  | rd sel => exact Laws.EncodedRow.rd sel
  | clrerr => exact Laws.EncodedRow.clrerr
  | rls step => exact Laws.EncodedRow.rls step
  | rlv step => exact Laws.EncodedRow.rlv step
  | lpfs coef => exact Laws.EncodedRow.lpfs coef
  | lpfv coef => exact Laws.EncodedRow.lpfv coef
  | lpft coef => exact Laws.EncodedRow.lpft coef
  | shps => exact Laws.EncodedRow.shps
  | shpv => exact Laws.EncodedRow.shpv
  | shpt => exact Laws.EncodedRow.shpt
  | blend => exact Laws.EncodedRow.blend
  | derate => exact Laws.EncodedRow.derate
  | ebrake => exact Laws.EncodedRow.ebrake
  | mix => exact Laws.EncodedRow.mix
  | out => exact Laws.EncodedRow.out
  | sample => exact Laws.EncodedRow.sample
  | safety => exact Laws.EncodedRow.safety
  | slowdown => exact Laws.EncodedRow.slowdown
  | xition => exact Laws.EncodedRow.xition
  | inact => exact Laws.EncodedRow.inact
  | fbstrobe => exact Laws.EncodedRow.fbstrobe
  | tick => exact Laws.EncodedRow.tick
  | ponstep => exact Laws.EncodedRow.ponstep

theorem wordRow_encode (i : Instr) : ∃ fmt, wordRow (encode i) = some (fmt, i) ∧
    encode i &&& fmt.mask = (opcodeField (encode i)).setWidth 32 := encodedRow i

theorem encode_injective {i j : Instr} (h : encode i = encode j) : i = j := by
  obtain ⟨_, hi, -⟩ := wordRow_encode i
  obtain ⟨_, hj, -⟩ := wordRow_encode j
  rw [h, hj] at hi
  cases hi
  rfl

/-! ### The generic checks (R85) -/

section
variable {halted ebrakeEn : Bool} {w : Word}

theorem opcodeField_eq_iff (w : Word) {n : Nat} (hn : n < 256) :
    opcodeField w = BitVec.ofNat 8 n ↔ w.toNat % 256 = n := by
  rw [← BitVec.toNat_inj, opcodeField_toNat, BitVec.toNat_ofNat, Nat.mod_eq_of_lt hn]

/-- The opcodes the checks of R85 name, as numbers. -/
theorem opcode_checks (w : Word) : (opcodeField w = 0x00#8 ↔ w.toNat % 256 = 0x00) ∧
    (opcodeField w = 0x03#8 ↔ w.toNat % 256 = 0x03) ∧ (opcodeField w = 0x1A#8 ↔ w.toNat % 256 = 0x1A) :=
  ⟨opcodeField_eq_iff w (by decide), opcodeField_eq_iff w (by decide), opcodeField_eq_iff w (by decide)⟩

theorem decodeChecked_of_no_row (h : wordRow w = none) : decodeChecked halted ebrakeEn w =
    if halted = true ∧ w.toNat % 256 ≠ 0x00 ∧ w.toNat % 256 ≠ 0x03 then .error .halted else .error .illegalOpcode := by
  obtain ⟨hnop, hrd, -⟩ := opcode_checks w
  rw [wordRow] at h
  simp only [decodeChecked, h, ne_eq, hnop, hrd]

theorem decodeChecked_of_row {fmt : Format} {i : Instr} (h : wordRow w = some (fmt, i)) :
    decodeChecked halted ebrakeEn w =
      if halted = true ∧ w.toNat % 256 ≠ 0x00 ∧ w.toNat % 256 ≠ 0x03 then .error .halted
      else if w.toNat % 256 = 0x1A ∧ ebrakeEn = false then .error .illegalOpcode
      else if w &&& reservedMask fmt ≠ 0#32 then .error .reservedBits
      else if fmt.hasSelector = true ∧ Sel.implemented (selField w) = false then .error .badSelector
      else .ok i := by
  obtain ⟨hnop, hrd, hebrake⟩ := opcode_checks w
  rw [wordRow] at h
  simp only [decodeChecked, h, ne_eq, hnop, hrd, hebrake, reserved_zero_iff]

/-- The command a word passes as: it has a row, no reserved bit set, and its selector is implemented. -/
theorem row_of_decodeChecked_ok {i : Instr} (h : decodeChecked halted ebrakeEn w = .ok i) :
    ∃ fmt, wordRow w = some (fmt, i) ∧ w &&& reservedMask fmt = 0#32 ∧
      (fmt.hasSelector = true → Sel.implemented (selField w) = true) := by
  cases hrow : wordRow w with
  | none => rw [decodeChecked_of_no_row hrow] at h; split at h <;> cases h
  | some row =>
    obtain ⟨fmt, j⟩ := row
    rw [decodeChecked_of_row hrow] at h
    split_ifs at h with hhalted hebrake hreserved hsel
    cases h
    exact ⟨fmt, rfl, not_not.1 hreserved, by simpa using hsel⟩

/-- The generic checks raise four of the errors of R190; the others are raised by a command's own rule. -/
theorem decodeChecked_error_cases {e : CmdError} (h : decodeChecked halted ebrakeEn w = .error e) :
    e = .halted ∨ e = .illegalOpcode ∨ e = .reservedBits ∨ e = .badSelector := by
  cases hrow : wordRow w with
  | none => rw [decodeChecked_of_no_row hrow] at h; split at h <;> cases h <;> simp
  | some row =>
    rw [decodeChecked_of_row hrow] at h
    split_ifs at h <;> cases h <;> simp

/-! ### Decoding against encoding (R86) -/

theorem encode_of_row {fmt : Format} {i : Instr} (hrow : wordRow w = some (fmt, i))
    (h : w &&& reservedMask fmt = 0#32) : encode i = w :=
  (rowFacts hrow).word.trans (formatWord_of_fixed ((reserved_zero_iff fmt w).1 h))

theorem encode_of_decodeChecked {i : Instr} (h : decodeChecked halted ebrakeEn w = .ok i) : encode i = w := by
  obtain ⟨fmt, hrow, hreserved, -⟩ := row_of_decodeChecked_ok h
  exact encode_of_row hrow hreserved

theorem wellFormed_of_decodeChecked {i : Instr} (h : decodeChecked halted ebrakeEn w = .ok i) :
    i.wellFormed = true := by
  obtain ⟨fmt, hrow, -, hsel⟩ := row_of_decodeChecked_ok h
  rw [(rowFacts hrow).wellFormed]
  cases hfmt : fmt.hasSelector with
  | false => rfl
  | true => exact hsel hfmt

/-- A well-formed command passes the generic checks as itself in every block that may run it. -/
theorem decodeChecked_encode {i : Instr} (hwf : i.wellFormed = true)
    (hhalted : halted = true → i = .nop ∨ ∃ sel, i = .rd sel) (hebrake : ebrakeEn = false → i ≠ .ebrake) :
    decodeChecked halted ebrakeEn (encode i) = .ok i := by
  obtain ⟨fmt, hrow, hfixed⟩ := wordRow_encode i
  have hnotHalted : ¬(halted = true ∧ (encode i).toNat % 256 ≠ 0x00 ∧ (encode i).toNat % 256 ≠ 0x03) := by
    rintro ⟨hh, hnop, hrd⟩
    obtain rfl | ⟨sel, rfl⟩ := hhalted hh
    · exact hnop rfl
    · exact hrd (by simp [encode, encodeR_toNat])
  have hbuilt : ¬((encode i).toNat % 256 = 0x1A ∧ ebrakeEn = false) := by
    rintro ⟨hop, hen⟩
    have hi : some (fmt, i) = some (Format.N, Instr.ebrake) := by
      rw [← hrow, wordRow, (opcode_checks _).2.2.2 hop]; rfl
    cases hi
    exact hebrake hen rfl
  have hsel : ¬(fmt.hasSelector = true ∧ Sel.implemented (selField (encode i)) = false) := by
    rintro ⟨hfmt, hbad⟩
    simp [(rowFacts hrow).wellFormed, hfmt, hbad] at hwf
  rw [decodeChecked_of_row hrow, if_neg hnotHalted, if_neg hbuilt,
    if_neg (not_not.2 ((reserved_zero_iff fmt _).2 hfixed)), if_neg hsel]

end

/-- Settles O1: the encoder writes the command's own row, and no check fails on it. -/
theorem decodeOfEncodedCommand : Obligations.DecodeOfEncodedCommand :=
  fun _ _ _ hwf hhalted hebrake =>
    ⟨decodeChecked_encode hwf hhalted hebrake, decodeChecked_encode hwf (by simp) (by simp)⟩

/-- Settles O2: a decoded command is well formed and has the word, which no other command has; a well-formed command's
word is never rejected. -/
theorem wordIsOneCommandOrOneError : Obligations.WordIsOneCommandOrOneError := by
  constructor
  · intro halted ebrakeEn w
    cases hdec : decodeChecked halted ebrakeEn w with
    | error e => exact .inr ⟨e, rfl⟩
    | ok i =>
      have hword := encode_of_decodeChecked hdec
      exact .inl ⟨i, rfl, wellFormed_of_decodeChecked hdec, hword, fun j hj => encode_injective (hj.trans hword.symm)⟩
  · rintro w e herror i hwf rfl
    have hok : decode (encode i) = .ok i := decodeChecked_encode hwf (by simp) (by simp)
    cases hok.symm.trans herror

theorem implemented_selField_eq_false_iff (w : Word) :
    Sel.implemented (selField w) = false ↔ w.toNat / 256 % 64 ≥ 0x27 := by
  simp [Sel.implemented, selField_toNat]

/-- Settles O3, by the word's row: the statement's conditions are those of the checks. -/
theorem decodeChecksInOrder : Obligations.DecodeChecksInOrder := by
  intro halted ebrakeEn w
  cases hrow : wordRow w with
  | none =>
    rw [decodeChecked_of_no_row hrow]
    split
    · rfl
    · rw [if_pos (.inl (unassigned_of_no_row hrow))]
  | some row =>
    obtain ⟨fmt, i⟩ := row
    have facts := rowFacts hrow
    have hassigned := facts.assigned
    have hreserved := facts.reserved
    have hselector := facts.selector
    rw [opcodeField_toNat] at hassigned hreserved hselector
    simp only [decodeChecked_of_row hrow, hassigned, hreserved, hselector, implemented_selField_eq_false_iff,
      not_true_eq_false, false_or]
    split_ifs with hhalted hebrake hset hsel
    iterate 4 rfl
    exact ⟨i, rfl, encode_of_row hrow (not_not.1 hset)⟩

/-! ### The command port (20_memory.md R69) -/

section
variable {s : State} {w : Word}

theorem eventAction_of_command (h : s.nextEvent = { rst := false, tick := false, cmd := some w }) :
    eventAction s s.nextEvent = commandAction s w := by
  rw [h]; rfl

theorem step_of_decoded {i : Instr} (h : s.nextEvent = { rst := false, tick := false, cmd := some w })
    (hport : s.params.testPort = true) (hdec : decodeChecked s.isHalted s.params.ebrakeEn w = .ok i) :
    step s = exec i s.eventTaken := by
  simp only [step, eventAction_of_command h, commandAction, hport, hdec, if_true]

theorem step_of_rejected {e : CmdError} (h : s.nextEvent = { rst := false, tick := false, cmd := some w })
    (hport : s.params.testPort = true) (hdec : decodeChecked s.isHalted s.params.ebrakeEn w = .error e) :
    step s = .next (errorRecorded s.eventTaken (errorCode e) w) := by
  simp only [step, eventAction_of_command h, commandAction, hport, hdec, if_true]
  rfl

/-- Taking an event changes the events in store and the draws alone. -/
theorem eventTaken_frame (s : State) :
    s.eventTaken = { s with events := s.eventTaken.events, draws := s.eventTaken.draws } := by
  apply State.ext <;> simp

theorem eventTaken_of_placed_command {e : Event} {rest : List Event}
    (h : s.nextEvent = { rst := false, tick := false, cmd := some w }) (hevents : s.events = e :: rest) :
    s.eventTaken = { s with events := rest } := by
  have hrest : s.eventTaken.events = rest := by rw [eventTaken_events, h, hevents]; rfl
  have hdraws : s.eventTaken.draws = s.draws := by simp [eventTaken_draws, hevents]
  rw [eventTaken_frame, hrest, hdraws]

end

/-- Settles O7: a generic check raises one of four errors, with these codes. -/
theorem stepRecordsRejectedWord : Obligations.StepRecordsRejectedWord := by
  intro s w e h hport hdec
  have hcases := decodeChecked_error_cases hdec
  refine ⟨?_, hcases⟩
  rw [step_of_rejected h hport hdec]
  rcases hcases with rfl | rfl | rfl | rfl <;> rfl

/-- Settles O6: the command port hands the decoded command to `exec`, and what decodes has the word it came from. -/
theorem stepRunsDecodedCommand : Obligations.StepRunsDecodedCommand := fun s _ _ h hport hdec =>
  ⟨step_of_decoded h hport hdec, wellFormed_of_decodeChecked hdec, encode_of_decodeChecked hdec, eventTaken_frame s,
    fun _ _ hevents => eventTaken_of_placed_command h hevents⟩

/-! ### LI32 on a writable 32-bit register (30_encoding.md R91, 45_register_access.md R181, R182) -/

theorem ldiValue_mod (r : Reg) (imm : Half) : ldiValue r imm % 65536 = imm.toNat := by
  have hlt := imm.isLt
  have hint := BitVec.toInt_eq_toNat_cond imm
  unfold ldiValue
  split
  · split at hint <;> omega
  · omega

/-- LDI's value has the immediate in its low half, by either extension (R81). -/
theorem low_half_ldiValue (r : Reg) (imm : Half) : (BitVec.ofInt 32 (ldiValue r imm)).extractLsb' 0 16 = imm := by
  have hmod := ldiValue_mod r imm
  refine BitVec.eq_of_toNat_eq ?_
  rw [BitVec.extractLsb'_toNat, BitVec.toNat_ofInt, Nat.shiftRight_zero]
  omega

/-- LDHI's value has LDHI's pattern. -/
theorem ofInt_ldhiValue (x : Regs) (r : Reg) (imm : Half) :
    BitVec.ofInt 32 (ldhiValue x r imm) = ldhiPattern x r imm := by
  unfold ldhiValue
  split
  · exact BitVec.ofInt_toInt
  · simp

theorem regLegal_ldiValue {r : Reg} (imm : Half) (hwritable : regReadOnly r = false) (hwide : regWidth r = 32) :
    regLegal r (ldiValue r imm) = true := by
  have hrange := regRange_of_wide hwritable hwide
  have hlt := imm.isLt
  have hge := toInt16_ge imm
  have hle := toInt16_le imm
  rw [regLegal, decide_eq_true_eq, ldiValue]
  split at hrange <;> obtain ⟨hlo, hhi⟩ := Prod.mk.inj hrange <;> rw [hlo, hhi]
  · next hsigned => rw [if_pos hsigned]; omega
  · next hunsigned => rw [if_neg hunsigned]; omega

theorem regSet_poweroff (x : Regs) (v : Int) {r : Reg} (hwritable : regReadOnly r = false) :
    (regSet x v r).poweroff = x.poweroff := by
  have hne : Reg.poweroff ≠ r := by rintro rfl; cases hwritable
  have hget : ((regSet x v r).poweroff.toNat : Int) = x.poweroff.toNat := regGet_regSet_other x v hne
  exact BitVec.eq_of_toNat_eq (by exact_mod_cast hget)

section
variable {s : State} {r : Reg}

theorem exec_ldi_wide (hrun : s.regs.poweroff = 0#1) (hwritable : regReadOnly r = false) (hwide : regWidth r = 32)
    (imm : Half) : exec (.ldi (regSel r) imm) s = .next { s with regs := regSet s.regs (ldiValue r imm) r } := by
  rw [exec_running s hrun, commandResult, loadImmediate, regAt_regSel]
  simp [hwritable, regLegal_ldiValue imm hwritable hwide]

theorem exec_ldhi_wide (hrun : s.regs.poweroff = 0#1) (hwritable : regReadOnly r = false) (hwide : regWidth r = 32)
    (imm : Half) :
    exec (.ldhi (regSel r) imm) s = .next { s with regs := regSet s.regs (ldhiValue s.regs r imm) r } := by
  rw [exec_running s hrun, commandResult, loadHigh, regAt_regSel]
  simp [hwritable, hwide]

end

/-- The registers after LI32's two loads. -/
def li32Regs (x : Regs) (r : Reg) (v : Word) : Regs :=
  let y := regSet x (ldiValue r (v.extractLsb' 0 16)) r
  regSet y (ldhiValue y r (v.extractLsb' 16 16)) r

theorem runCommands_li32 {s : State} {r : Reg} (hrun : s.regs.poweroff = 0#1) (hwritable : regReadOnly r = false)
    (hwide : regWidth r = 32) (v : Word) :
    runCommands (expand (.li32 r v)) s = some { s with regs := li32Regs s.regs r v } := by
  have hrun' : (regSet s.regs (ldiValue r (v.extractLsb' 0 16)) r).poweroff = 0#1 :=
    (regSet_poweroff _ _ hwritable).trans hrun
  simp only [expand, runCommands, exec_ldi_wide hrun hwritable hwide]
  rw [exec_ldhi_wide hrun' hwritable hwide]
  rfl

theorem rd32_li32Regs (x : Regs) {r : Reg} (hwritable : regReadOnly r = false) (hwide : regWidth r = 32) (v : Word) :
    rd32 (li32Regs x r v) r = v := by
  have hlow := regGet_regSet_self x (regLegal_ldiValue (v.extractLsb' 0 16) hwritable hwide)
  rw [li32Regs, rd32, regGet_regSet_self _ (regLegal_ldhiValue _ _ hwritable hwide), ofInt_ldhiValue, ldhiPattern,
    rd32, hlow, low_half_ldiValue]
  exact (BitVec.extractLsb'_append_extractLsb'_eq_extractLsb' (by decide)).trans BitVec.extractLsb'_eq_self

theorem regGet_li32Regs_other (x : Regs) {q r : Reg} (h : q ≠ r) (v : Word) :
    regGet (li32Regs x r v) q = regGet x q := by
  rw [li32Regs, regGet_regSet_other _ _ h, regGet_regSet_other _ _ h]

theorem writable_wide_of_mem {r : Reg}
    (h : r ∈ [Reg.accSteer, .accSpeed, .accTemp, .steer, .speed, .inactCnt, .tickCnt]) :
    regReadOnly r = false ∧ regWidth r = 32 := by
  revert r; decide

/-- SETIN loads FLAGS_IN, at selector 0x18, with its mask below eight zero bits (R91). -/
theorem expand_setin (m : Byte) : expand (.setin m) = [.ldi 0x18#6 (0#8 ++ m)] := by
  have hmask : m.setWidth 16 = 0#8 ++ m := BitVec.setWidth_eq_append (by decide)
  rw [expand, hmask]
  rfl

/-- Settles O5: the low half by LDI, then the high half above it by LDHI. -/
theorem pseudoInstructionsExpand : Obligations.PseudoInstructionsExpand := by
  refine ⟨fun _ _ => rfl, fun _ => rfl, expand_setin, fun s v hrun r hr => ?_⟩
  obtain ⟨hwritable, hwide⟩ := writable_wide_of_mem hr
  exact ⟨_, runCommands_li32 hrun hwritable hwide v, rd32_li32Regs s.regs hwritable hwide v,
    fun q hq => regGet_li32Regs_other s.regs hq v, rfl⟩

/-! ### The encoding examples (30_encoding.md R92) -/

/-- One row of R92: the text is the command, the command has the word, and so the word decodes to the command. -/
theorem encodingExample {text : String} {i : Instr} {w : Word} (htext : assembleLine text.toList = some [i])
    (hwf : i.wellFormed = true) (hword : encode i = w) : assembleWords text = some [w] ∧ decode w = .ok i := by
  subst hword
  exact ⟨by simp [assembleWords, htext], decodeChecked_encode hwf (by simp) (by simp)⟩

/-- Settles O4, row by row. -/
theorem encodingExamples : Obligations.EncodingExamples := by
  refine ⟨?_, ?_, ?_, ?_, ?_, ?_, ?_, ?_, ?_, ?_, ?_, ?_⟩ <;> exact encodingExample (by decide) rfl rfl

end Sys2Proof.Machine

/-! ## The filters family: rate limiter, low-pass filter and shaping shift -/

namespace Sys2Proof.Machine

/-! ### The same command again and again -/

/-- `n` times a command that only computes registers, and leaves the block running, is its effect `n` times. -/
theorem runCommands_replicate {i : Instr} {f : Params → Regs → Regs} (heffect : ∀ s, commandResult s i = .ok (onRegs f s))
    (hkeeps : ∀ p x, (f p x).poweroff = x.poweroff) (n : Nat) {s : State} (hrun : s.regs.poweroff = 0#1) :
    runCommands (List.replicate n i) s = some (onRegs (fun p => (f p)^[n]) s) := by
  induction n generalizing s with
  | zero => rfl
  | succ n ih =>
    have hexec : exec i s = .next (onRegs f s) := by rw [exec_running s hrun, heffect, finish_ok]
    rw [List.replicate_succ, runCommands, hexec]
    exact ih ((hkeeps _ _).trans hrun)

/-- Moves whose distances add up: `n` moves by `d` are one move by `n * d`. -/
theorem iterate_eq_move_mul {α : Type} {move : Nat → α → α} (hzero : ∀ x, move 0 x = x)
    (hadd : ∀ m n x, move m (move n x) = move (n + m) x) (d n : Nat) (x : α) : (move d)^[n] x = move (n * d) x := by
  induction n with
  | zero => rw [Nat.zero_mul, hzero]; rfl
  | succ n ih => rw [Function.iterate_succ_apply', ih, hadd, Nat.succ_mul]

/-! ### Rate limiter (40_filters.md R100 to R103) -/

/-- The rate-limited 16-bit state: `state` moved toward `target` by at most `n`. -/
def limited (target : Half) (n : Nat) (state : Half) : Half := store 16 (rateLimit target.toInt n state.toInt)

/-- The result fits the register, so it reads back as the exact clamp of R100. -/
theorem toInt_limited (target state : Half) (n : Nat) : (limited target n state).toInt =
    state.toInt + max (-(n : Int)) (min (n : Int) (target.toInt - state.toInt)) := by
  obtain ⟨hge, hle⟩ := rateLimit_bounds n ⟨toInt16_ge target, toInt16_le target⟩ ⟨toInt16_ge state, toInt16_le state⟩
  rw [limited, toInt_store16 hge hle, rateLimit_eq]

theorem limited_zero (target state : Half) : limited target 0 state = state :=
  BitVec.eq_of_toInt_eq (by rw [toInt_limited]; omega)

/-- One move after another is one move by both steps: neither passes the target. -/
theorem limited_limited (target state : Half) (m n : Nat) :
    limited target m (limited target n state) = limited target (n + m) state :=
  BitVec.eq_of_toInt_eq (by simp only [toInt_limited]; omega)

theorem limited_eq_target_iff (target state : Half) (n : Nat) :
    limited target n state = target ↔ (target.toInt - state.toInt).natAbs ≤ n := by
  rw [← BitVec.toInt_inj, toInt_limited]; omega

/-- RLS's effect by any distance, in or out of the range of an immediate. -/
def moveSteer (n : Nat) (x : Regs) : Regs := { x with rsSteer := limited x.cmdSteer n x.rsSteer }

/-- RLV's effect by any distance. -/
def moveSpeed (n : Nat) (x : Regs) : Regs := { x with rsSpeed := limited x.cmdSpeed n x.rsSpeed }

theorem rateLimitSteer_eq_moveSteer (step : Half) : rateLimitSteer step = moveSteer step.toNat := rfl

theorem rateLimitSpeed_eq_moveSpeed (step : Half) : rateLimitSpeed step = moveSpeed step.toNat := rfl

theorem iterate_rateLimitSteer (step : Half) (n : Nat) (x : Regs) :
    (rateLimitSteer step)^[n] x = moveSteer (n * step.toNat) x := by
  rw [rateLimitSteer_eq_moveSteer]
  exact iterate_eq_move_mul (fun x => by rw [moveSteer, limited_zero])
    (fun m n x => by simp only [moveSteer, limited_limited]) step.toNat n x

theorem iterate_rateLimitSpeed (step : Half) (n : Nat) (x : Regs) :
    (rateLimitSpeed step)^[n] x = moveSpeed (n * step.toNat) x := by
  rw [rateLimitSpeed_eq_moveSpeed]
  exact iterate_eq_move_mul (fun x => by rw [moveSpeed, limited_zero])
    (fun m n x => by simp only [moveSpeed, limited_limited]) step.toNat n x

/-- `n` RLS are one move by `n` steps. -/
theorem runCommands_rls (n : Nat) (step : Half) {s : State} (hrun : s.regs.poweroff = 0#1) :
    runCommands (List.replicate n (.rls step)) s = some { s with regs := moveSteer (n * step.toNat) s.regs } := by
  rw [runCommands_replicate (f := fun _ => rateLimitSteer step) (fun _ => rfl) (fun _ _ => rfl) n hrun, onRegs,
    iterate_rateLimitSteer]

/-- `n` RLV are one move by `n` steps. -/
theorem runCommands_rlv (n : Nat) (step : Half) {s : State} (hrun : s.regs.poweroff = 0#1) :
    runCommands (List.replicate n (.rlv step)) s = some { s with regs := moveSpeed (n * step.toNat) s.regs } := by
  rw [runCommands_replicate (f := fun _ => rateLimitSpeed step) (fun _ => rfl) (fun _ _ => rfl) n hrun, onRegs,
    iterate_rateLimitSpeed]

/-- Settles O33: one move by the step. -/
theorem rateLimitersMoveByStep : Obligations.RateLimitersMoveByStep := fun s step hrun =>
  ⟨⟨_, exec_running s hrun (.rls step), toInt_limited _ _ _, rfl⟩,
    ⟨_, exec_running s hrun (.rlv step), toInt_limited _ _ _, rfl⟩⟩

/-- Settles O34: `n` calls are one move by `n` steps. -/
theorem rateLimiterConverges : Obligations.RateLimiterConverges := by
  intro n s step hrun
  have hmoved (target state : Half) := toInt_limited target state (n * step.toNat)
  simp only [Nat.cast_mul] at hmoved
  exact ⟨⟨_, runCommands_rls n step hrun, hmoved _ _, limited_eq_target_iff _ _ _, rfl⟩,
    ⟨_, runCommands_rlv n step hrun, hmoved _ _, limited_eq_target_iff _ _ _, rfl⟩⟩

/-! ### Low-pass filter (R104 to R108) -/

/-- The filtered value fits the accumulator, which so reads back as R104's increment without the saturation (R105 (d)). -/
theorem toInt_store_lowPassFilter (p : Params) (input coef : Half) (acc : Word) :
    (store 32 (lowPassFilter p.k input.toInt coef.toNat acc.toInt)).toInt =
      acc.toInt + (input.toInt * 2 ^ p.k - acc.toInt) * coef.toNat / 65536 := by
  obtain ⟨hvalue, hge, hle⟩ := lowPassFilter_eq p.k_range input coef acc
  rw [toInt_store32 hge hle, hvalue]

/-- Settles O35: the three filters differ in their registers alone. -/
theorem lowPassFiltersAddIncrement : Obligations.LowPassFiltersAddIncrement := fun s coef hrun =>
  ⟨⟨_, exec_running s hrun (.lpfs coef), toInt_store_lowPassFilter _ _ _ _, rfl⟩,
    ⟨_, exec_running s hrun (.lpfv coef), toInt_store_lowPassFilter _ _ _ _, rfl⟩,
    ⟨_, exec_running s hrun (.lpft coef), toInt_store_lowPassFilter _ _ _ _, rfl⟩⟩

section
variable {d c : Int}

/-- From below, the floored Q16 increment does not fall, and stays short of the distance. -/
theorem increment_of_pos (hd : 0 < d) (h0 : 0 ≤ c) (h1 : c < 65536) : 0 ≤ d * c / 65536 ∧ d * c / 65536 < d :=
  ⟨Int.ediv_nonneg (mul_nonneg hd.le h0) (by decide),
    Int.ediv_lt_of_lt_mul (by decide) (mul_lt_mul_of_pos_left h1 hd)⟩

/-- From above, it does not rise, and stays within the distance. -/
theorem increment_of_neg (hd : d < 0) (h0 : 0 ≤ c) (h1 : c < 65536) : d ≤ d * c / 65536 ∧ d * c / 65536 ≤ 0 :=
  ⟨Int.le_ediv_of_mul_le (by decide) (mul_le_mul_of_nonpos_left h1.le hd.le),
    Int.ediv_le_of_le_mul (by decide) (by rw [zero_mul]; exact mul_nonpos_of_nonpos_of_nonneg hd.le h0)⟩

/-- From above, the floor makes every product but 0 a move (R105 (c)). -/
theorem increment_neg (hd : d < 0) (hc : 0 < c) : d * c / 65536 < 0 :=
  Int.ediv_neg_of_neg_of_pos (mul_neg_of_neg_of_pos hd hc) (by decide)

/-- From below, it floors to 0 while the product is under 2^16 (R105 (c)). -/
theorem increment_stalls (hd : 0 < d) (h0 : 0 ≤ c) (h : d * c < 65536) : d * c / 65536 = 0 :=
  Int.ediv_eq_zero_of_lt (mul_nonneg hd.le h0) h

end

/-- Settles O36: LPFV adds R104's increment, whose sign and size are those of the lemmas above. -/
theorem lowPassNeverOvershoots : Obligations.LowPassNeverOvershoots := by
  intro s t coef hrun h
  rw [exec_running s hrun] at h
  cases h
  intro target acc acc'
  have hnext : acc' = acc + (target - acc) * coef.toNat / 65536 := toInt_store_lowPassFilter _ _ _ _
  have h0 : (0 : Int) ≤ coef.toNat := Int.natCast_nonneg _
  have h1 : (coef.toNat : Int) < 65536 := by exact_mod_cast coef.isLt
  rw [hnext]
  refine ⟨fun hat => ?steady, fun hcoef => ?off, fun hbelow => ?below, fun hbelow hsmall => ?stall,
    fun habove => ?above, fun habove hcoef => ?moves⟩
  case steady => simp [hat]
  case off => simp [hcoef]
  case below =>
    obtain ⟨hge, hlt⟩ := increment_of_pos (sub_pos.2 hbelow) h0 h1
    omega
  case stall => rw [increment_stalls (sub_pos.2 hbelow) h0 hsmall, add_zero]
  case above =>
    obtain ⟨hge, hle⟩ := increment_of_neg (sub_neg.2 habove) h0 h1
    omega
  case moves =>
    have hpos : (0 : Int) < coef.toNat := by
      exact_mod_cast Nat.pos_of_ne_zero fun hz => hcoef (BitVec.eq_of_toNat_eq hz)
    have hneg := increment_neg (sub_neg.2 habove) hpos
    omega

/-! ### Shaping shift (R109 to R113) -/

/-- The floor of an accumulator fits the 32-bit register it is stored in (R109). -/
theorem toInt_store_shape (k : Nat) (acc : Word) : (store 32 (shape k acc.toInt)).toInt = acc.toInt / 2 ^ k := by
  obtain ⟨hge, hle⟩ := shape_bounds k acc
  rw [toInt_store32 hge hle, shape, asr_eq_ediv]

/-- Settles O37: the three shifts differ in their registers alone. -/
theorem shapingShiftsFloor : Obligations.ShapingShiftsFloor := fun s hrun =>
  ⟨⟨_, exec_running s hrun .shps, toInt_store_shape _ _, rfl⟩,
    ⟨_, exec_running s hrun .shpv, toInt_store_shape _ _, rfl⟩,
    ⟨_, exec_running s hrun .shpt, toInt_store_shape _ _, rfl⟩⟩

end Sys2Proof.Machine

/-! ## The shaping family: speed blend, derating and electric brake -/

namespace Sys2Proof.Machine

/-! ### Speed blend (41_shaping.md R120, R121) -/

/-- The Q15 ramp of R120 as a function of the magnitude alone. -/
def blendRamp (p : Params) (m : Nat) : Int :=
  (max p.blendLo (min p.blendHi m) - p.blendLo) * 32768 / (p.blendHi - p.blendLo)

theorem blendOf_eq_blendRamp (p : Params) (avg : Int) : blendOf p avg = blendRamp p avg.natAbs := blendOf_eq p avg

section
variable (p : Params)

theorem blendRamp_mono {m n : Nat} (h : m ≤ n) : blendRamp p m ≤ blendRamp p n := by
  have hrange := p.blend_range
  exact Int.ediv_le_ediv (by omega) (by omega)

/-- No threshold is negative, so the ramp has not begun at standstill. -/
theorem blendRamp_zero : blendRamp p 0 = 0 := by
  have hrange := p.blend_range
  have hclamp : max p.blendLo (min p.blendHi (0 : Nat)) = p.blendLo := by omega
  rw [blendRamp, hclamp, sub_self, zero_mul, Int.zero_ediv]

theorem blendRamp_of_ge {m : Nat} (h : p.blendHi ≤ m) : blendRamp p m = 32768 := by
  have hrange := p.blend_range
  have hclamp : max p.blendLo (min p.blendHi (m : Int)) = p.blendHi := by omega
  rw [blendRamp, hclamp, Int.mul_ediv_cancel_left _ (by omega)]

variable (x : Regs)

/-- The average of two 16-bit speeds fits 16 bits, so it reads back exactly. -/
theorem blendSpeed_speedAvg_toInt : (blendSpeed p x).speedAvg.toInt = averageSpeed x := by
  obtain ⟨hge, hle⟩ := averageSpeed_bounds x
  exact toInt_store16 hge hle

/-- Unsigned, so that the magnitude of -32768 fits too. -/
theorem blendSpeed_speedAvgAbs_toNat :
    (blendSpeed p x).speedAvgAbs.toNat = (blendSpeed p x).speedAvg.toInt.natAbs := by
  obtain ⟨hge, hle⟩ := averageSpeed_bounds x
  rw [blendSpeed_speedAvg_toInt, blendSpeed, absInt_eq_natAbs, toNat_store] <;> omega

theorem blendSpeed_speedBlend_toNat_eq_blendOf :
    ((blendSpeed p x).speedBlend.toNat : Int) = blendOf p (averageSpeed x) := by
  obtain ⟨hge, hle⟩ := blendOf_bounds p (averageSpeed x)
  rw [blendSpeed, toNat_store] <;> omega

/-- The blend BLEND stores is the ramp at the magnitude it stores. -/
theorem blendSpeed_speedBlend_toNat :
    ((blendSpeed p x).speedBlend.toNat : Int) = blendRamp p (blendSpeed p x).speedAvgAbs.toNat := by
  rw [blendSpeed_speedBlend_toNat_eq_blendOf, blendOf_eq_blendRamp, blendSpeed_speedAvgAbs_toNat,
    blendSpeed_speedAvg_toInt]

theorem blendSpeed_speedBlend_le : (blendSpeed p x).speedBlend.toNat ≤ 32768 := by
  have hle := (blendOf_bounds p (averageSpeed x)).2
  rw [← blendSpeed_speedBlend_toNat_eq_blendOf] at hle
  exact_mod_cast hle

end

/-- Settles O38: the three registers BLEND writes read back as R120's values. -/
theorem blendAveragesAndRamps : Obligations.BlendAveragesAndRamps := fun s hrun =>
  ⟨_, exec_running s hrun .blend, blendSpeed_speedAvg_toInt _ _, blendSpeed_speedAvgAbs_toNat _ _,
    blendSpeed_speedBlend_toNat _ _, rfl⟩

/-- Settles O39: each BLEND stores the ramp at its magnitude, and the two ramps are one. -/
theorem blendIsMonotone : Obligations.BlendIsMonotone := by
  intro s s' t t' hrun hrun' hparams h h'
  rw [exec_running s hrun] at h
  rw [exec_running s' hrun'] at h'
  cases h
  cases h'
  have hramp := blendSpeed_speedBlend_toNat s.params s.regs
  have hramp' := blendSpeed_speedBlend_toNat s'.params s'.regs
  rw [hparams] at hramp'
  simp only [onRegs_regs, hparams]
  refine ⟨fun hle => ?monotone, fun hzero => ?standstill, fun hhigh => ?full, blendSpeed_speedBlend_le _ _⟩
  case monotone =>
    have hmono := blendRamp_mono s.params hle
    omega
  case standstill =>
    rw [hzero, BitVec.toNat_zero, blendRamp_zero] at hramp
    exact BitVec.eq_of_toNat_eq (by exact_mod_cast hramp)
  case full =>
    rw [blendRamp_of_ge _ hhigh] at hramp
    exact BitVec.eq_of_toNat_eq (by exact_mod_cast hramp)

/-! ### Derating (R122, R123) -/

section
variable {v : Int} {c : Nat}

/-- At most 100 percent of a value is at most its magnitude, rounded toward zero. -/
theorem natAbs_percent_le (hc : c ≤ 100) : (Int.tdiv (v * c) 100).natAbs ≤ v.natAbs := by
  rw [Int.natAbs_tdiv, Int.natAbs_mul, Int.natAbs_natCast]
  exact Nat.div_le_of_le_mul (by rw [mul_comm]; exact Nat.mul_le_mul_right _ hc)

theorem percent_nonneg (hv : 0 ≤ v) : 0 ≤ Int.tdiv (v * c) 100 :=
  Int.tdiv_nonneg (mul_nonneg hv (Int.natCast_nonneg c)) (by decide)

theorem percent_nonpos (hv : v ≤ 0) : Int.tdiv (v * c) 100 ≤ 0 := by
  have hneg : 0 ≤ Int.tdiv (-v * c) 100 := percent_nonneg (neg_nonneg.2 hv)
  rwa [neg_mul, Int.neg_tdiv, neg_nonneg] at hneg

end

/-- A percentage of at most 100 keeps the sign and does not enlarge, so the product fits the register. -/
theorem derateSpeed_speed_toInt (x : Regs) (hsdc : x.sdc.toNat ≤ 100) :
    (derateSpeed x).speed.toInt = Int.tdiv (x.speed.toInt * x.sdc.toNat) 100 := by
  have hge := toInt32_ge x.speed
  have hle := toInt32_le x.speed
  have habs : (Int.tdiv (x.speed.toInt * x.sdc.toNat) 100).natAbs ≤ x.speed.toInt.natAbs := natAbs_percent_le hsdc
  have hnonneg : 0 ≤ x.speed.toInt → 0 ≤ Int.tdiv (x.speed.toInt * x.sdc.toNat) 100 := percent_nonneg
  have hnonpos : x.speed.toInt ≤ 0 → Int.tdiv (x.speed.toInt * x.sdc.toNat) 100 ≤ 0 := percent_nonpos
  exact toInt_store32 (by rw [tdiv]; omega) (by rw [tdiv]; omega)

/-- Settles O40: size and sign of the percentage. -/
theorem derateScalesTowardZero : Obligations.DerateScalesTowardZero := by
  intro s hrun hsdc
  have hspeed := derateSpeed_speed_toInt s.regs hsdc
  refine ⟨_, exec_running s hrun .derate, hspeed, ?_⟩
  rw [onRegs_regs, hspeed]
  exact ⟨natAbs_percent_le hsdc, percent_nonneg, percent_nonpos, rfl⟩

/-! ### Electric brake (R124, R125) -/

theorem exec_ebrake_built {s : State} (hrun : s.regs.poweroff = 0#1) (hbuilt : s.params.ebrakeEn = true) :
    exec .ebrake s = .next (onRegs (fun _ x => brakeSpeed x) s) := by
  rw [exec_running s hrun, commandResult, if_pos hbuilt, finish_ok]

theorem toInt_store_satS32 (v : Int) :
    (store 32 (satS32 v)).toInt = max (-2147483648) (min 2147483647 v) := by
  rw [satS32_eq, toInt_store32] <;> omega

section
variable (x : Regs)

/-- A brake request, read off bit 4 of `FLAGS_IN` as a number. -/
theorem brakeRequested_iff : brakeRequested x = true ↔
    (x.flagsIn.toNat / 16 % 2 = 0 ∧ x.speed.toInt < 0 ∨ x.flagsIn.toNat / 16 % 2 = 1 ∧ 0 < x.speed.toInt) := by
  have hbit : (flagDirRev x).toNat = x.flagsIn.toNat / 16 % 2 := flagBit_toNat x 4
  rw [← hbit, brakeRequested, decide_eq_true_eq, ← BitVec.toNat_inj, ← BitVec.toNat_inj]
  rfl

theorem brakeMagnitude_nonneg : 0 ≤ brakeMagnitude x := by
  rw [brakeMagnitude_eq]
  positivity

/-- A blend of at most 1.0 does not enlarge the command (R125). -/
theorem brakeMagnitude_le (hblend : x.speedBlend.toNat ≤ 32768) : brakeMagnitude x ≤ x.speed.toInt.natAbs := by
  rw [brakeMagnitude_eq]
  exact Int.ediv_le_of_le_mul (by decide)
    (mul_le_mul_of_nonneg_left (by exact_mod_cast hblend) (Int.natCast_nonneg _))

variable {x}

theorem brakeSpeed_of_not_requested (h : ¬ brakeRequested x = true) : brakeSpeed x = x := if_neg h

theorem brakeSpeed_speed_toInt (h : brakeRequested x = true) :
    (brakeSpeed x).speed.toInt = max (-2147483648) (min 2147483647 (brakeCommand x)) := by
  rw [brakeSpeed, if_pos h, toInt_store_satS32]

/-- The brake command against forward travel; the magnitude is not negative, so only the lower bound can be met. -/
theorem brakeSpeed_speed_forward (h : brakeRequested x = true) (htravel : 0 < x.speedAvg.toInt) :
    (brakeSpeed x).speed.toInt = max (-2147483648) (-brakeMagnitude x) := by
  have hm := brakeMagnitude_nonneg x
  rw [brakeSpeed_speed_toInt h, brakeCommand, if_pos htravel]
  omega

theorem brakeSpeed_speed_reverse (h : brakeRequested x = true) (htravel : x.speedAvg.toInt < 0) :
    (brakeSpeed x).speed.toInt = min 2147483647 (brakeMagnitude x) := by
  have hm := brakeMagnitude_nonneg x
  rw [brakeSpeed_speed_toInt h, brakeCommand, if_neg (by omega), if_pos htravel]
  omega

theorem brakeSpeed_speed_standstill (h : brakeRequested x = true) (hstill : x.speedAvg.toInt = 0) :
    (brakeSpeed x).speed.toInt = 0 := by
  rw [brakeSpeed_speed_toInt h, brakeCommand, if_neg (by omega), if_neg (by omega)]
  decide

end

/-- Settles O41: a brake request by the direction of travel, any other command as it is. -/
theorem ebrakeOpposesTravel : Obligations.EbrakeOpposesTravel := by
  intro s hrun hbuilt
  refine ⟨_, exec_ebrake_built hrun hbuilt, ?_, ?frame⟩
  case frame => rw [onRegs, brakeSpeed_eq]
  simp only [onRegs_regs, ← brakeRequested_iff, ← brakeMagnitude_eq]
  exact ⟨fun hreq => ⟨brakeSpeed_speed_forward hreq, brakeSpeed_speed_reverse hreq, brakeSpeed_speed_standstill hreq⟩,
    fun hpass => by rw [brakeSpeed_of_not_requested hpass]⟩

/-- Settles O42: the three directions of travel, with the magnitude between 0 and that of the command. -/
theorem ebrakeNeverPushes : Obligations.EbrakeNeverPushes := by
  intro s t hrun hbuilt hblend h
  rw [exec_ebrake_built hrun hbuilt] at h
  cases h
  have hnonneg := brakeMagnitude_nonneg s.regs
  have hle := brakeMagnitude_le s.regs hblend
  rw [← brakeRequested_iff, onRegs_regs]
  by_cases hreq : brakeRequested s.regs = true
  case neg => exact ⟨fun h => absurd h hreq, by rw [brakeSpeed_of_not_requested hreq]⟩
  have hforward := brakeSpeed_speed_forward hreq
  have hreverse := brakeSpeed_speed_reverse hreq
  have hstill := brakeSpeed_speed_standstill hreq
  refine ⟨fun _ => ⟨fun htravel => ?_, fun htravel => ?_, fun hzero => ?_⟩, ?magnitude⟩
  · rw [hforward htravel]; omega
  · rw [hreverse htravel]; omega
  · exact BitVec.eq_of_toInt_eq (hstill (by rw [hzero]; rfl))
  case magnitude =>
    rcases lt_trichotomy s.regs.speedAvg.toInt 0 with htravel | htravel | htravel
    · rw [hreverse htravel]; omega
    · rw [hstill htravel]; omega
    · rw [hforward htravel]; omega

end Sys2Proof.Machine

/-! ## The mixer family: the mixed motor commands and the assigned outputs -/

namespace Sys2Proof.Machine

/-! ### MIX (42_mixer.md R130 to R133) -/

section
variable (p : Params)

theorem clamp_outMax_bounds (v : Int) :
    -p.outMax ≤ clamp v (-p.outMax) p.outMax ∧ clamp v (-p.outMax) p.outMax ≤ p.outMax := by
  obtain ⟨hpos, -⟩ := p.outMax_range
  exact ⟨clamp_ge v (by omega), clamp_le v (by omega)⟩

/-- `P_OUT_MAX` is at most 32767, so a clamped command fits its 16-bit register. -/
theorem toInt_store_clamp_outMax (v : Int) :
    (store 16 (clamp v (-p.outMax) p.outMax)).toInt = clamp v (-p.outMax) p.outMax := by
  obtain ⟨-, hfits⟩ := p.outMax_range
  obtain ⟨hge, hle⟩ := clamp_outMax_bounds p v
  exact toInt_store16 (by omega) (by omega)

theorem natAbs_store_clamp_outMax_le (v : Int) :
    (store 16 (clamp v (-p.outMax) p.outMax)).toInt.natAbs ≤ p.outMax := by
  obtain ⟨hge, hle⟩ := clamp_outMax_bounds p v
  rw [toInt_store_clamp_outMax]
  omega

/-- The steer term alone tells the two commands apart. -/
theorem mixLeft_eq_mixRight_of_no_steer (speed : Int) : mixLeft p speed 0 = mixRight p speed 0 := by
  rw [mixLeft_eq, mixRight_eq, zero_mul, Int.zero_ediv, add_zero, sub_zero]

variable (x : Regs)

theorem mixCommands_motL_toInt : (mixCommands p x).motL.toInt = mixLeft p x.speed.toInt x.steer.toInt :=
  toInt_store_clamp_outMax p _

theorem mixCommands_motR_toInt : (mixCommands p x).motR.toInt = mixRight p x.speed.toInt x.steer.toInt :=
  toInt_store_clamp_outMax p _

theorem mixCommands_motL_eq_motR (hsteer : x.steer = 0#32) : (mixCommands p x).motL = (mixCommands p x).motR := by
  have hzero : x.steer.toInt = 0 := by rw [hsteer]; rfl
  apply BitVec.eq_of_toInt_eq
  rw [mixCommands_motL_toInt, mixCommands_motR_toInt, hzero, mixLeft_eq_mixRight_of_no_steer]

end

/-- Settles O43: the two commands read back as R130's clamped sum and difference, which agree without steer. -/
theorem mixClampsBothCommands : Obligations.MixClampsBothCommands := fun s hrun =>
  ⟨_, exec_running s hrun .mix,
    ⟨(mixCommands_motL_toInt _ _).trans (mixLeft_eq _ _ _), (mixCommands_motR_toInt _ _).trans (mixRight_eq _ _ _),
      mixCommands_motL_eq_motR _ _⟩,
    natAbs_store_clamp_outMax_le _ _, natAbs_store_clamp_outMax_le _ _, rfl⟩

/-! ### OUT (R134) -/

/-- Only the negation of -32768 leaves the 16-bit range, and that is saturated. -/
theorem toInt_store_polarity (inv : Bool) (v : Half) :
    (store 16 (polarity inv v.toInt)).toInt = if inv then min 32767 (-v.toInt) else v.toInt := by
  have hge := toInt16_ge v
  have hle := toInt16_le v
  rw [polarity_eq]
  cases inv with
  | false => exact toInt_store16 hge hle
  | true => exact toInt_store16 (v := min 32767 (-v.toInt)) (by omega) (by omega)

/-- Settles O44: the same polarity rule for either motor. -/
theorem outInvertsPolarity : Obligations.OutInvertsPolarity := fun s hrun =>
  ⟨_, exec_running s hrun .out, toInt_store_polarity _ _, toInt_store_polarity _ _, rfl⟩

end Sys2Proof.Machine

/-! ## The safety family: arbitration, slow-downs, transitions, inactivity -/

namespace Sys2Proof.Machine

/-! ### The conditions of the priority list (43_safety.md R140) -/

theorem flagBit_eq_one_iff (x : Regs) (i : Nat) : flagBit x i = 1#1 ↔ x.flagsIn.toNat / 2 ^ i % 2 = 1 := by
  rw [← flagBit_toNat, ← BitVec.toNat_inj]
  rfl

section
variable (p : Params) (x : Regs)

theorem overTemp_iff : overTemp p x = true ↔ p.tempOff ≤ x.tempFilt.toInt := decide_eq_true_iff

theorem batDead_iff : batDead p x = true ↔ x.bat.toInt < p.batDead := decide_eq_true_iff

theorem lowSpeed_iff : lowSpeed p x = true ↔ x.speedAvgAbs.toNat < p.stopSpeed := decide_eq_true_iff

theorem motorFault_iff : motorFault x = true ↔ x.faultL ≠ 0#8 ∨ x.faultR ≠ 0#8 := decide_eq_true_iff

theorem analogTimeout_iff : analogTimeout x = true ↔ x.flagsIn.toNat / 2 ^ 0 % 2 = 1 :=
  decide_eq_true_iff.trans (flagBit_eq_one_iff x 0)

theorem serialTimeout_iff : serialTimeout x = true ↔ x.flagsIn.toNat / 2 ^ 1 % 2 = 1 :=
  decide_eq_true_iff.trans (flagBit_eq_one_iff x 1)

theorem generalTimeout_iff : generalTimeout x = true ↔ x.flagsIn.toNat / 2 ^ 2 % 2 = 1 :=
  decide_eq_true_iff.trans (flagBit_eq_one_iff x 2)

theorem tempWarn_iff : tempWarn p x = true ↔ p.tempWarn ≤ x.tempFilt.toInt := decide_eq_true_iff

theorem batLvl1_iff : batLvl1 p x = true ↔ x.bat.toInt < p.batLvl1 := decide_eq_true_iff

theorem batLvl2_iff : batLvl2 p x = true ↔ x.bat.toInt < p.batLvl2 := decide_eq_true_iff

theorem backMotion_iff : backMotion p x = true ↔
    (x.speedAvg.toInt < 0 ∧ p.backSpeed < x.speedAvgAbs.toNat) ∨ x.flagsIn.toNat / 2 ^ 4 % 2 = 1 :=
  decide_eq_true_iff.trans (or_congr_right (flagBit_eq_one_iff x 4))

/-! ### SAFETY (R141, R142, R144) -/

/-- The number of the winning rule, down the list of R141 with its conditions written out. -/
theorem ruleNumber_winningRule : (ruleNumber (winningRule p x)).toNat =
    if p.tempOff ≤ x.tempFilt.toInt then 1
    else if x.bat.toInt < p.batDead then 2
    else if x.faultL ≠ 0#8 ∨ x.faultR ≠ 0#8 then 3
    else if x.flagsIn.toNat / 2 ^ 0 % 2 = 1 then 4
    else if x.flagsIn.toNat / 2 ^ 1 % 2 = 1 then 5
    else if x.flagsIn.toNat / 2 ^ 2 % 2 = 1 then 6
    else if p.tempWarn ≤ x.tempFilt.toInt then 7
    else if x.bat.toInt < p.batLvl1 then 8
    else if x.bat.toInt < p.batLvl2 then 9
    else if (x.speedAvg.toInt < 0 ∧ p.backSpeed < x.speedAvgAbs.toNat) ∨ x.flagsIn.toNat / 2 ^ 4 % 2 = 1 then 10
    else 11 := by
  simp only [winningRule, overTemp_iff, batDead_iff, motorFault_iff, analogTimeout_iff, serialTimeout_iff,
    generalTimeout_iff, tempWarn_iff, batLvl1_iff, batLvl2_iff, backMotion_iff, apply_ite ruleNumber,
    apply_ite BitVec.toNat]
  rfl

end

section
variable (r : SafetyRule)

theorem stops_iff : stops r = true ↔ (ruleNumber r).toNat ≤ 2 := by cases r <;> decide

theorem eq_motorFault_iff : r = .motorFault ↔ (ruleNumber r).toNat = 3 := by cases r <;> decide

theorem eq_backMotion_iff : r = .backMotion ↔ (ruleNumber r).toNat = 10 := by cases r <;> decide

theorem eq_nominal_iff : r = .nominal ↔ (ruleNumber r).toNat = 11 := by cases r <;> decide

/-- The pattern a rule requests, by the rule's number. -/
theorem rulePattern_eq : rulePattern r =
    if (ruleNumber r).toNat = 3 then .a else if (ruleNumber r).toNat = 4 then .b
    else if (ruleNumber r).toNat = 5 then .c else if (ruleNumber r).toNat = 6 then .d
    else if (ruleNumber r).toNat = 7 then .e else if (ruleNumber r).toNat = 8 then .f
    else if (ruleNumber r).toNat = 9 then .g else if (ruleNumber r).toNat = 10 then .h else .silence := by
  cases r <;> rfl

end

/-- Settles O45: SAFETY is one record update whose every value depends on the winning rule's number. -/
theorem safetyFirstRuleWins : Obligations.SafetyFirstRuleWins := by
  intro s hrun
  refine ⟨_, exec_running s hrun .safety, ?_, ?frame⟩
  case frame => rw [onRegs, arbitrate_eq]
  intro x p flag rule low
  have hrule : rule = (ruleNumber (winningRule p x)).toNat := (ruleNumber_winningRule p x).symm
  clear_value rule
  subst hrule
  simp only [onRegs_regs, arbitrate_eq, ← Bool.not_eq_true, stops_iff, lowSpeed_iff, eq_motorFault_iff,
    eq_backMotion_iff, eq_nominal_iff, apply_ite BitVec.toNat, slowedDown_toNat, rulePattern_eq]
  exact ⟨rfl, rfl, rfl, rfl, rfl, rfl⟩

/-! ### SLOWDOWN (R145, R146) -/

/-- A slow-down by any amount, down to 0. -/
def slowBy (n : Nat) (x : Regs) : Regs := { x with sdc := BitVec.ofNat 8 (x.sdc.toNat - n) }

theorem slowBy_sdc_toNat (n : Nat) (x : Regs) : (slowBy n x).sdc.toNat = x.sdc.toNat - n :=
  Nat.mod_eq_of_lt ((Nat.sub_le _ _).trans_lt x.sdc.isLt)

theorem slowBy_zero (x : Regs) : slowBy 0 x = x := by simp [slowBy]

theorem slowBy_slowBy (m n : Nat) (x : Regs) : slowBy m (slowBy n x) = slowBy (n + m) x := by
  rw [slowBy, slowBy_sdc_toNat, Nat.sub_sub]
  rfl

/-- One request is a slow-down by `P_SDC_DEC`. -/
theorem slowDown_eq_slowBy (p : Params) : slowDown p = slowBy p.sdcDec := by
  funext x
  have hsdc : slowedDown p x = (slowBy p.sdcDec x).sdc :=
    BitVec.eq_of_toNat_eq (by rw [slowedDown_toNat, slowBy_sdc_toNat])
  rw [slowDown, hsdc]
  rfl

/-- `k` requests are one slow-down by `k` decrements. -/
theorem runCommands_slowdown (k : Nat) {s : State} (hrun : s.regs.poweroff = 0#1) :
    runCommands (List.replicate k .slowdown) s = some { s with regs := slowBy (k * s.params.sdcDec) s.regs } := by
  rw [runCommands_replicate (f := slowDown) (fun _ => rfl) (fun _ _ => rfl) k hrun, onRegs, slowDown_eq_slowBy,
    iterate_eq_move_mul slowBy_zero slowBy_slowBy]

/-- Settles O47: one decrement, and `k` of them at once. -/
theorem slowdownsLowerDerating : Obligations.SlowdownsLowerDerating := fun s hrun =>
  ⟨⟨_, exec_running s hrun .slowdown, slowedDown_toNat _ _, rfl⟩,
    fun k => ⟨_, runCommands_slowdown k hrun, slowBy_sdc_toNat _ _, rfl⟩⟩

/-! ### XITION (R150, R151) -/

section
variable (p : Params) (x : Regs)

theorem interlockHolds_iff : interlockHolds p x = true ↔ x.faultL = 0#8 ∧ x.faultR = 0#8 ∧
    (-p.dbEn ≤ x.cmdSteer.toInt ∧ x.cmdSteer.toInt ≤ p.dbEn) ∧
    (-p.dbEn ≤ x.cmdSpeed.toInt ∧ x.cmdSpeed.toInt ≤ p.dbEn) := by
  simp only [interlockHolds, Bool.and_eq_true, decide_eq_true_eq, inDB_iff, and_assoc]

/-- The requested enable, bit 3 of `FLAGS_IN` (10_state.md R34). -/
theorem flagEnReq_toNat : (flagEnReq x).toNat = x.flagsIn.toNat / 8 % 2 := flagBit_toNat x 3

theorem transitionDue_iff : transitionDue p x ↔
    x.flagsIn.toNat / 8 % 2 ≠ x.enable.toNat ∧ x.faultL = 0#8 ∧ x.faultR = 0#8 ∧
    (-p.dbEn ≤ x.cmdSteer.toInt ∧ x.cmdSteer.toInt ≤ p.dbEn) ∧
    (-p.dbEn ≤ x.cmdSpeed.toInt ∧ x.cmdSpeed.toInt ≤ p.dbEn) := by
  rw [transitionDue, interlockHolds_iff, ← flagEnReq_toNat, ne_eq, ne_eq, BitVec.toNat_inj]

end

/-- Settles O48: XITION's update where a transition is due, the same registers otherwise. -/
theorem xitionInterlockedTransition : Obligations.XitionInterlockedTransition := by
  intro s hrun
  have hexec : exec .xition s = .next (onRegs transition s) := exec_running s hrun .xition
  have hreq : BitVec.ofNat 1 (s.regs.flagsIn.toNat / 8 % 2) = flagEnReq s.regs := by
    rw [← flagEnReq_toNat, BitVec.ofNat_toNat, BitVec.setWidth_eq]
  have hone : s.regs.flagsIn.toNat / 8 % 2 = 1 ↔ flagEnReq s.regs = 1#1 := (flagBit_eq_one_iff s.regs 3).symm
  refine ⟨fun hdue => ?due, fun hnot => ?not⟩
  case due =>
    simp only [hexec, onRegs, transition_of_due _ _ ((transitionDue_iff _ _).2 hdue), hreq, hone]
  case not => rw [hexec, onRegs, transition_of_not_due _ _ fun hdue => hnot ((transitionDue_iff _ _).1 hdue)]

/-! ### INACT (R153, R154) -/

section
variable (p : Params) (x : Regs)

theorem inactiveNow_iff : inactiveNow p x = true ↔ (-p.dbInact ≤ x.motL.toInt ∧ x.motL.toInt ≤ p.dbInact) ∧
    (-p.dbInact ≤ x.motR.toInt ∧ x.motR.toInt ≤ p.dbInact) := by
  rw [inactiveNow, Bool.and_eq_true, inDB_iff, inDB_iff]

/-- The count saturates at what its register holds, so it reads back exactly. -/
theorem checkInactivity_inactCnt_toNat : (checkInactivity p x).inactCnt.toNat = inactiveCount p x := by
  have hle : inactiveCount p x ≤ 4294967295 := by
    unfold inactiveCount
    split <;> omega
  rw [checkInactivity, toNat_store] <;> omega

theorem checkInactivity_poweroff : (checkInactivity p x).poweroff =
    if p.inactN < (checkInactivity p x).inactCnt.toNat then 1#1 else x.poweroff := by
  rw [checkInactivity_inactCnt_toNat]
  rfl

end

/-- Settles O49: the count reads back exactly, and decides the power-off. -/
theorem inactCountsAndPowersOff : Obligations.InactCountsAndPowersOff := by
  intro s hrun
  refine ⟨_, exec_running s hrun .inact, ?count, ?poweroff, rfl⟩
  case count => simp only [onRegs_regs, checkInactivity_inactCnt_toNat, inactiveCount, inactiveNow_iff]
  case poweroff => rw [onRegs_regs, checkInactivity_poweroff, hrun]

/-- `s` after `n` checks, all of them idle, from a count of 0. -/
def idleFor (n : Nat) (s : State) : State :=
  { s with regs := { s.regs with
      inactCnt := BitVec.ofNat 32 n
      poweroff := if s.params.inactN < n then 1#1 else 0#1 } }

section
variable {s : State}

theorem idleFor_zero (hrun : s.regs.poweroff = 0#1) (hcount : s.regs.inactCnt = 0#32) : idleFor 0 s = s := by
  have hpoweroff : (if s.params.inactN < 0 then 1#1 else 0#1) = s.regs.poweroff := by simp [hrun]
  rw [idleFor, hpoweroff, ← hcount]

theorem idleFor_inactCnt_toNat {n : Nat} (hn : n ≤ s.params.inactN + 1) : (idleFor n s).regs.inactCnt.toNat = n := by
  have hrange := s.params.inactN_range
  exact Nat.mod_eq_of_lt (by omega)

/-- Up to `P_INACT_N` checks leave the block running, and the next one counts on. -/
theorem exec_inact_idleFor (hidle : inactiveNow s.params s.regs = true) {n : Nat} (hn : n ≤ s.params.inactN) :
    exec .inact (idleFor n s) = .next (idleFor (n + 1) s) := by
  have hrange := s.params.inactN_range
  have hrun : (idleFor n s).regs.poweroff = 0#1 := if_neg (by omega)
  have hcount : inactiveCount s.params (idleFor n s).regs = n + 1 := by
    have hidle' : inactiveNow s.params (idleFor n s).regs = true := hidle
    rw [inactiveCount, if_pos hidle', idleFor_inactCnt_toNat (by omega)]
    omega
  have hregs : checkInactivity s.params (idleFor n s).regs = (idleFor (n + 1) s).regs := by
    rw [checkInactivity, hcount, hrun]
    rfl
  rw [exec_running _ hrun]
  exact congrArg (fun x => Host.Outcome.next { s with regs := x }) hregs

/-- `k` more idle checks after `n`, up to the one that powers off. -/
theorem runCommands_inact_idleFor (hidle : inactiveNow s.params s.regs = true) {n k : Nat}
    (h : n + k ≤ s.params.inactN + 1) :
    runCommands (List.replicate k .inact) (idleFor n s) = some (idleFor (n + k) s) := by
  induction k generalizing n with
  | zero => rfl
  | succ k ih =>
    have hn : n ≤ s.params.inactN := by omega
    have hsum : n + (k + 1) = n + 1 + k := by omega
    rw [List.replicate_succ, runCommands, exec_inact_idleFor hidle hn, hsum]
    exact ih (by omega)

end

/-- Settles O50: the count after `k` idle checks is `k`, and the power-off says whether it exceeds `P_INACT_N`. -/
theorem inactivityPowersOffExactly : Obligations.InactivityPowersOffExactly := by
  intro s k hrun hcount hleft hright hk
  have hidle : inactiveNow s.params s.regs = true := (inactiveNow_iff _ _).2 ⟨hleft, hright⟩
  have hchecks := runCommands_inact_idleFor hidle (n := 0) (k := k) (by omega)
  rw [idleFor_zero hrun hcount, Nat.zero_add] at hchecks
  refine ⟨_, hchecks, idleFor_inactCnt_toNat hk, ?_⟩
  have hpoweroff : (idleFor k s).regs.poweroff = 1#1 ↔ s.params.inactN < k := by simp [idleFor]
  rw [hpoweroff]
  omega

/-! ### ENABLE rises only through the interlock (R151) -/

/-- A 32-bit load does not reach the one bit of `ENABLE`. -/
theorem regSet_enable_of_wide (x : Regs) (v : Int) {r : Reg} (hwide : regWidth r = 32) :
    (regSet x v r).enable = x.enable := by
  have hne : Reg.enable ≠ r := by rintro rfl; exact absurd hwide (by decide)
  have hget : ((regSet x v r).enable.toNat : Int) = x.enable.toNat := regGet_regSet_other x v hne
  exact BitVec.eq_of_toNat_eq (by exact_mod_cast hget)

section
variable (p : Params) (x : Regs)

theorem interlockHolds_transition : interlockHolds p (transition p x) = interlockHolds p x := by
  simp [interlockHolds]

/-- The interlock reads sampled registers alone, which no stage after SAMPLE writes. -/
theorem interlockHolds_safetyStages : interlockHolds p (safetyStages p x) = interlockHolds p (arbitrate p x) := by
  simp [interlockHolds]

variable {p x}

theorem interlockHolds_of_transition_enables (hoff : x.enable = 0#1) (hon : (transition p x).enable = 1#1) :
    interlockHolds p x = true := by
  by_contra hnot
  rw [transition_of_not_due p x fun hdue => hnot hdue.2, hoff] at hon
  exact absurd hon (by decide)

/-- Arbitration only disables. -/
theorem arbitrate_enable_of_off (hoff : x.enable = 0#1) : (arbitrate p x).enable = 0#1 := by
  simp [arbitrate_eq, hoff]

/-- What enables in a TICK is the XITION among its stages. -/
theorem interlockHolds_of_safetyStages_enables (hoff : x.enable = 0#1) (hon : (safetyStages p x).enable = 1#1) :
    interlockHolds p (safetyStages p x) = true := by
  rw [interlockHolds_safetyStages]
  exact interlockHolds_of_transition_enables (arbitrate_enable_of_off hoff) (by simpa [safetyStages_eq] using hon)

end

/-- Of the commands with an effect, those other than LDI, XITION and TICK leave a cleared `ENABLE` cleared. -/
theorem commandResult_enable_of_off {s t : State} {i : Instr} (hldi : ∀ sel imm, i ≠ .ldi sel imm)
    (hxition : i ≠ .xition) (htick : i ≠ .tick) (hoff : s.regs.enable = 0#1) (h : commandResult s i = .ok t) :
    t.regs.enable = 0#1 := by
  cases i with
  | ldi sel imm => exact absurd rfl (hldi sel imm)
  | xition => exact absurd rfl hxition
  | tick => exact absurd rfl htick
  | ldhi sel imm =>
    obtain ⟨r, -, hwide, rfl⟩ := loadHigh_ok h
    exact (regSet_enable_of_wide _ _ hwide).trans hoff
  | rd sel =>
    obtain ⟨hregs, -⟩ := readRegister_ok h
    rw [hregs, hoff]
  | safety => cases h; exact arbitrate_enable_of_off hoff
  | ebrake =>
    simp only [commandResult] at h
    split at h
    · cases h; simpa using hoff
    · cases h
  | ponstep => rw [commandResult_ponstep_ok h]; simpa [runPonstep] using hoff
  | _ => cases h; simpa using hoff

theorem runTick_enables_through_interlock {s : State} (hoff : s.regs.enable = 0#1)
    (hon : (runTick s).regs.enable = 1#1) : interlockHolds s.params (runTick s).regs = true := by
  rw [runTick_eq] at hon ⊢
  exact interlockHolds_of_safetyStages_enables (by simpa using hoff) hon

/-- Settles O19: XITION and TICK's XITION stage enable through the interlock, no other command but LDI enables. -/
theorem enableOnlyThroughInterlock : Obligations.EnableOnlyThroughInterlock := by
  intro i s t hldi h hoff hon
  suffices hthrough : (i = .xition ∨ i = .tick) ∧ interlockHolds s.params t.regs = true by
    obtain ⟨hcommand, hinterlock⟩ := hthrough
    obtain ⟨hfaultL, hfaultR, ⟨hsteerGe, hsteerLe⟩, hspeedGe, hspeedLe⟩ := (interlockHolds_iff _ _).1 hinterlock
    exact ⟨hcommand, hfaultL, hfaultR, hsteerGe, hsteerLe, hspeedGe, hspeedLe⟩
  obtain hok | ⟨e, rfl⟩ := exec_cases s h
  case inr => simp [hoff] at hon
  by_cases hxition : i = .xition
  · subst hxition
    cases hok
    exact ⟨.inl rfl, (interlockHolds_transition _ _).trans (interlockHolds_of_transition_enables hoff hon)⟩
  by_cases htick : i = .tick
  · subst htick
    rw [commandResult_tick_ok hok] at hon ⊢
    exact ⟨.inr rfl, runTick_enables_through_interlock hoff hon⟩
  rw [commandResult_enable_of_off hldi hxition htick hoff hok] at hon
  exact absurd hon (by decide)

/-! ### A dead battery at standstill (R143) -/

theorem exec_tick_running {s : State} (hrun : s.regs.poweroff = 0#1) (hphase : s.regs.ponState = 4#3) :
    exec .tick s = .next (runTick s) := by
  rw [exec_running s hrun, commandResult, if_pos ((inRunPhase_iff s).2 hphase), finish_ok]

section
variable {p : Params} {x : Regs}

/-- Only rule 1 comes before a dead battery, and its action is the same. -/
theorem stops_winningRule_of_batDead (hdead : batDead p x = true) : stops (winningRule p x) = true := by
  cases hover : overTemp p x <;> simp [winningRule, hover, hdead, stops]

theorem arbitrate_poweroff_of_batDead (hdead : batDead p x = true) (hlow : lowSpeed p x = true) :
    (arbitrate p x).poweroff = 1#1 := by
  rw [arbitrate_eq]
  exact if_pos ⟨stops_winningRule_of_batDead hdead, hlow⟩

/-- INACT never clears a power-off (R153). -/
theorem checkInactivity_poweroff_of_set (hset : x.poweroff = 1#1) : (checkInactivity p x).poweroff = 1#1 := by
  rw [checkInactivity_poweroff, hset, ite_self]

theorem safetyStages_poweroff_of_batDead (hdead : batDead p x = true) (hlow : lowSpeed p x = true) :
    (safetyStages p x).poweroff = 1#1 := by
  rw [safetyStages_eq]
  exact checkInactivity_poweroff_of_set (arbitrate_poweroff_of_batDead hdead hlow)

/-- Standstill is low speed: `P_STOP_SPEED` is at least 1. -/
theorem lowSpeed_of_standstill (hstill : x.speedAvgAbs.toNat = 0) : lowSpeed p x = true := by
  obtain ⟨hpos, -⟩ := p.stopSpeed_range
  exact (lowSpeed_iff p x).2 (by omega)

/-- The BLEND of a TICK leaves the magnitude of the average for its SAFETY. -/
theorem outputStages_shapingStages_speedAvgAbs_toNat :
    (outputStages p (shapingStages p x)).speedAvgAbs.toNat = (averageSpeed x).natAbs := by
  rw [outputStages_frame, shapingStages_frame, blendSpeed_speedAvgAbs_toNat, blendSpeed_speedAvg_toInt]

end

theorem runTick_tickCnt (s : State) : (runTick s).regs.tickCnt = s.regs.tickCnt + 1#32 := by
  simp [runTick_eq, safetyStages_eq, strobeFeedback]

/-- Settles O55: at SAFETY the tick sees the sampled battery and the average of the sampled speeds. -/
theorem deadBatteryAtStandstillPowersOff : Obligations.DeadBatteryAtStandstillPowersOff := by
  intro s hrun hphase hbat hspeeds
  have hstill : averageSpeed (latch s.portValues s.regs) = 0 := hspeeds
  refine ⟨_, exec_tick_running hrun hphase, ?poweroff, ?count⟩
  case poweroff =>
    rw [runTick_eq]
    refine safetyStages_poweroff_of_batDead ((batDead_iff _ _).2 ?_) (lowSpeed_of_standstill ?_)
    · simpa [latch] using hbat
    · rw [outputStages_shapingStages_speedAvgAbs_toNat, hstill, Int.natAbs_zero]
  case count =>
    rw [runTick_tickCnt]
    exact BitVec.toNat_add _ _

end Sys2Proof.Machine

/-! ## The sequencer family: sampling, the feedback strobe, TICK and the power-on sequence -/

namespace Sys2Proof.Machine

/-! ### SAMPLE (44_sequencer.md R160) -/

theorem exec_sample_running {s : State} (hrun : s.regs.poweroff = 0#1) : exec .sample s = .next (samplePorts s) :=
  exec_running s hrun .sample

theorem portValues_of_placed {s : State} {v : Sample} {rest : List Sample} (h : s.samples = v :: rest) :
    s.portValues = v := by
  rw [State.portValues, h]

/-- SAMPLE writes the sampled registers and takes one placed entry, or one free draw where none is placed. -/
theorem samplePorts_frame (s : State) : samplePorts s =
    { s with
      regs := latch s.portValues s.regs
      samples := s.samples.tail
      draws := if s.samples = [] then s.draws + 1 else s.draws } := by
  apply State.ext <;> simp [portsTaken_draws]

/-- Settles O51: the latched flag word is the eight ports in their places. -/
theorem sampleLatchesPorts : Obligations.SampleLatchesPorts := fun s hrun =>
  ⟨_, exec_sample_running hrun, ⟨packFlags_toNat s.portValues, samplePorts_frame s⟩,
    fun _ _ hplaced => portValues_of_placed hplaced⟩

theorem flagBit_latch_eq {v : Sample} {x : Regs} {i : Nat} {b : BitVec 1}
    (h : (packFlags v).toNat / 2 ^ i % 2 = b.toNat) : flagBit (latch v x) i = b :=
  BitVec.eq_of_toNat_eq ((flagBit_latch v x i).trans h)

section
variable (v : Sample) (x : Regs)

/-- The poll reads three flags as the ports held them (10_state.md R34). -/
theorem flagButton_latch : flagButton (latch v x) = v.button :=
  flagBit_latch_eq (by rw [packFlags_toNat]; omega)

theorem flagThrMax_latch : flagThrMax (latch v x) = v.thrMax :=
  flagBit_latch_eq (by rw [packFlags_toNat]; omega)

theorem flagCalDone_latch : flagCalDone (latch v x) = v.calDone :=
  flagBit_latch_eq (by rw [packFlags_toNat]; omega)

end

/-! ### FBSTROBE (R163) -/

theorem strobeFeedback_fbStrobe (p : Params) (x : Regs) : (strobeFeedback p x).fbStrobe =
    if (strobeFeedback p x).tickCnt.toNat % p.fbDiv = 0 then 1#1 else 0#1 := by
  by_cases h : (x.tickCnt + 1#32).toNat % p.fbDiv = 0 <;> simp only [strobeFeedback, boolBit, h] <;> rfl

/-- Settles O52: the sum wraps at 2^32, and the strobe tests it. -/
theorem fbstrobeDividesTicks : Obligations.FbstrobeDividesTicks := fun s hrun =>
  ⟨_, exec_running s hrun .fbstrobe, BitVec.toNat_add _ _, strobeFeedback_fbStrobe _ _, rfl⟩

/-! ### Tick dispatch (R167) -/

theorem exec_ponstep_running {s : State} (hrun : s.regs.poweroff = 0#1) (hphase : s.regs.ponState ≠ 4#3) :
    exec .ponstep s = .next (runPonstep s) := by
  rw [exec_running s hrun, commandResult, if_neg fun h => hphase ((inRunPhase_iff s).1 h), finish_ok]

section
variable {s : State}

theorem eventAction_of_strobe (hrst : s.nextEvent.rst = false) (htick : s.nextEvent.tick = true) :
    eventAction s s.nextEvent = tickAction s := by
  simp [eventAction, hrst, htick]

theorem tickAction_halted (hhalt : s.regs.poweroff = 1#1) : tickAction s = .idle := by
  rw [tickAction, if_pos ((isHalted_iff s).2 hhalt)]

theorem tickAction_running (hrun : s.regs.poweroff = 0#1) :
    tickAction s = if s.regs.ponState = 4#3 then .run .tick else .run .ponstep := by
  simp [tickAction, (isHalted_eq_false_iff s).2 hrun, inRunPhase_iff]

end

/-- The micro-ops of a TICK raise no errors (R166). -/
theorem runTick_keeps_record (s : State) : (runTick s).regs.errCause = s.regs.errCause ∧
    (runTick s).regs.errWord = s.regs.errWord ∧ (runTick s).rdata = s.rdata := by
  simp [runTick]

/-- Neither does a PONSTEP (R170). -/
theorem runPonstep_keeps_record (s : State) : (runPonstep s).regs.errCause = s.regs.errCause ∧
    (runPonstep s).regs.errWord = s.regs.errWord ∧ (runPonstep s).rdata = s.rdata := by
  simp [runPonstep]

/-- Settles O8: the strobe's action in each phase, and what it runs keeps the record. -/
theorem tickStrobeDispatch : Obligations.TickStrobeDispatch := by
  intro s hrst htick
  have haction := eventAction_of_strobe hrst htick
  refine ⟨fun hhalt => ?halted, fun hrun hphase => ?run, fun hrun hphase => ?powerOn, eventTaken_frame s, ?record⟩
  case halted => rw [step, haction, tickAction_halted hhalt]
  case run => rw [step, haction, tickAction_running hrun, if_pos hphase]
  case powerOn => rw [step, haction, tickAction_running hrun, if_neg hphase]
  case record =>
    obtain ⟨t, ht⟩ := step_goes_on s
    refine ⟨t, ht, ?_⟩
    obtain ⟨hreset, -⟩ | ⟨-, -, -, rfl⟩ | ⟨-, -, -, -, rfl⟩ | ⟨-, -, -, -, rfl⟩ | ⟨-, hnoTick, -⟩ | ⟨-, hnoTick, -⟩ |
      ⟨-, hnoTick, -⟩ := step_cases ht
    · simp [hrst] at hreset
    · simp
    · simpa using runTick_keeps_record s.eventTaken
    · simpa using runPonstep_keeps_record s.eventTaken
    all_goals simp [htick] at hnoTick

/-! ### The power-on phase keeps the run-phase outputs (R165, R171) -/

/-- The outputs that are made in the run phase alone (10_state.md R45). -/
def runOutputs (s : State) :=
  (s.outputs.motL, s.outputs.motR, s.outputs.motorEn, s.outputs.alert, s.outputs.backward, s.outputs.poweroff,
    s.outputs.fbStrobe)

theorem runOutputs_eventTaken (s : State) : runOutputs s.eventTaken = runOutputs s := by
  simp [runOutputs, State.outputs]

theorem runOutputs_runPonstep (s : State) : runOutputs (runPonstep s) = runOutputs s := by
  simp [runOutputs, State.outputs, runPonstep]

/-- Settles O21: without the port the strobe's PONSTEP is all that a step can run in this phase. -/
theorem powerOnKeepsOutputs : Obligations.PowerOnKeepsOutputs := by
  intro s t hport hphase hrst h
  suffices hview : runOutputs t = runOutputs s by simpa only [runOutputs, Prod.mk.injEq] using hview
  rw [← runOutputs_eventTaken s]
  obtain ⟨hreset, -⟩ | ⟨-, -, -, rfl⟩ | ⟨-, -, -, hrunPhase, -⟩ | ⟨-, -, -, -, rfl⟩ | ⟨-, -, _, _, -, hbuilt, -⟩ |
    ⟨-, -, _, _, -, hbuilt, -⟩ | ⟨-, -, -, rfl⟩ := step_cases h
  · simp [hrst] at hreset
  · rfl
  · exact absurd hrunPhase hphase
  · exact runOutputs_runPonstep _
  · simp [hport] at hbuilt
  · simp [hport] at hbuilt
  · rfl

/-! ### The power-on poll (R170) -/

/-- The counter as the statements write it. -/
theorem inc16_eq (v : BitVec 16) : inc16 v = BitVec.ofNat 16 (min (v.toNat + 1) 65535) :=
  BitVec.eq_of_toNat_eq (by rw [inc16_toNat, BitVec.toNat_ofNat]; omega)

theorem exec_ponstep_polls {s : State} (hrun : s.regs.poweroff = 0#1) (hphase : s.regs.ponState ≠ 4#3) :
    exec .ponstep s = .next { samplePorts s with regs := ponPoll s.params (samplePorts s).regs } := by
  rw [exec_ponstep_running hrun hphase, runPonstep_eq, samplePorts_regs]

section
variable {p : Params} {x : Regs}

theorem ponWaitRelease_eq : ponWaitRelease p x =
    if flagButton x = 1#1 then x
    else if p.calEn then { x with ponState := 1#3, ponTimer := 0#16, ponTaps := 0#8, ponPress := 0#16 }
    else ponRunning x := by
  obtain hreleased | hpressed := BitVec.eq_zero_or_eq_one (flagButton x)
  · have hnot : flagButton x ≠ 1#1 := by simp [hreleased]
    rw [ponWaitRelease, if_pos hreleased, if_neg hnot]
    rfl
  · have hnot : flagButton x ≠ 0#1 := by simp [hpressed]
    rw [ponWaitRelease, if_neg hnot, if_pos hpressed]

theorem ponCalWindow_eq : ponCalWindow p x =
    if flagButton x = 1#1 then
      if p.longHold ≤ min (x.ponPress.toNat + 1) 65535 then
        { x with ponState := 3#3, ponTimer := 0#16, ponPress := 0#16 }
      else { x with ponTimer := 0#16, ponPress := BitVec.ofNat 16 (min (x.ponPress.toNat + 1) 65535) }
    else if p.calIdle ≤ min (x.ponTimer.toNat + 1) 65535 then ponRunning x
    else { x with ponTimer := BitVec.ofNat 16 (min (x.ponTimer.toNat + 1) 65535), ponPress := 0#16 } := by
  simp only [ponCalWindow, inc16_toNat, ge_iff_le, ← inc16_eq]
  rfl

end

/-- Settles O57: the two states read one port each. -/
theorem ponstepWaitsForReleaseAndCalibration : Obligations.PonstepWaitsForReleaseAndCalibration := by
  intro s hrun
  refine ⟨_, exec_sample_running hrun, fun hstate => ?waitRelease, fun hstate => ?calActive⟩
  case waitRelease =>
    rw [exec_ponstep_polls hrun (by simp [hstate]), ponPoll_waitRelease (by simpa using hstate), ponWaitRelease_eq,
      samplePorts_regs, flagButton_latch]
  case calActive =>
    rw [exec_ponstep_polls hrun (by simp [hstate]), ponPoll_calActive (by simpa using hstate), ponCalActive,
      samplePorts_regs, flagCalDone_latch]
    rfl

/-- Settles O59: a poll of CAL_WINDOW on the sampled registers. -/
theorem ponstepCalibrationWindow : Obligations.PonstepCalibrationWindow := by
  intro s hrun hstate
  refine ⟨_, exec_sample_running hrun, ?_⟩
  rw [exec_ponstep_polls hrun (by simp [hstate]), ponPoll_calWindow (by simpa using hstate), ponCalWindow_eq,
    samplePorts_regs, flagButton_latch]

/-! ### TAP_DETECT (R170) -/

section
variable {p : Params} {x : Regs}

theorem ponTapDecide_of_left (h : x.ponState ≠ 1#3) : ponTapDecide p x = x := if_neg h

theorem ponTapDecide_of_two_taps (hstate : x.ponState = 1#3) (htaps : x.ponTaps = 2#8) :
    ponTapDecide p x = toCalWindow x := by
  rw [ponTapDecide, if_pos hstate, if_pos htaps]

theorem ponTapDecide_of_window (hstate : x.ponState = 1#3) (htaps : x.ponTaps ≠ 2#8) :
    ponTapDecide p x = if p.tapWindow ≤ x.ponTimer.toNat then ponRunning x else x := by
  rw [ponTapDecide, if_pos hstate, if_neg htaps]
  rfl

theorem ponTapButton_of_pressed (h : flagButton x = 1#1) :
    ponTapButton p x = { x with ponPress := inc16 x.ponPress } := if_pos h

theorem ponTapButton_of_idle (hbutton : flagButton x ≠ 1#1) (hpress : x.ponPress = 0#16) : ponTapButton p x = x := by
  rw [ponTapButton, if_neg hbutton, hpress]
  rfl

theorem ponTapButton_of_long_press (hbutton : flagButton x ≠ 1#1) (hlong : p.tapMax < x.ponPress.toNat) :
    ponTapButton p x = ponRunning x := by
  rw [ponTapButton, if_neg hbutton, if_pos (by omega), if_neg (by omega)]
  rfl

theorem ponTapButton_of_tap (hbutton : flagButton x ≠ 1#1) (hpress : x.ponPress ≠ 0#16)
    (hshort : ¬ p.tapMax < x.ponPress.toNat) :
    ponTapButton p x = { x with ponTaps := x.ponTaps + 1#8, ponPress := 0#16 } := by
  have hpos : x.ponPress.toNat > 0 := Nat.pos_of_ne_zero fun h => hpress (BitVec.eq_of_toNat_eq h)
  rw [ponTapButton, if_neg hbutton, if_pos hpos, if_pos (by omega)]

/-- The timer has counted this poll. -/
def timed (x : Regs) : Regs := { x with ponTimer := inc16 x.ponTimer }

/-- The throttle and the tap count let the poll go on to the button. -/
theorem ponTapDetect_of_polled (hthrottle : flagThrMax x ≠ 0#1) (htaps : x.ponTaps ≠ 2#8) :
    ponTapDetect p x = ponTapDecide p (ponTapButton p (timed x)) :=
  (if_neg hthrottle).trans (if_neg htaps)

/-- The poll that ends a press: too long a press, the second tap, the window over, or one more tap. -/
theorem ponTapDetect_of_release (hstate : x.ponState = 1#3) (hthrottle : flagThrMax x ≠ 0#1) (htaps : x.ponTaps ≠ 2#8)
    (hbutton : flagButton x ≠ 1#1) (hpress : x.ponPress ≠ 0#16) : ponTapDetect p x =
    if p.tapMax < x.ponPress.toNat then ponRunning x
    else if x.ponTaps = 1#8 then { x with ponState := 2#3, ponTimer := 0#16, ponTaps := 2#8, ponPress := 0#16 }
    else if p.tapWindow ≤ (inc16 x.ponTimer).toNat then ponRunning x
    else { x with ponTimer := inc16 x.ponTimer, ponTaps := x.ponTaps + 1#8, ponPress := 0#16 } := by
  rw [ponTapDetect_of_polled hthrottle htaps]
  by_cases hlong : p.tapMax < x.ponPress.toNat
  · rw [if_pos hlong, ponTapButton_of_long_press (x := timed x) hbutton hlong]
    exact ponTapDecide_of_left (by decide : 4#3 ≠ 1#3)
  rw [if_neg hlong, ponTapButton_of_tap (x := timed x) hbutton hpress hlong]
  have htwo : x.ponTaps + 1#8 = 2#8 ↔ x.ponTaps = 1#8 := by bv_omega
  by_cases hone : x.ponTaps = 1#8
  · rw [if_pos hone, ponTapDecide_of_two_taps, ← htwo.2 hone]
    · rfl
    · exact hstate
    · exact htwo.2 hone
  · rw [if_neg hone, ponTapDecide_of_window]
    · rfl
    · exact hstate
    · exact fun h => hone (htwo.1 h)

/-- Every other poll with the throttle at maximum: the window over, or the timer and a press count on. -/
theorem ponTapDetect_of_no_release (hstate : x.ponState = 1#3) (hthrottle : flagThrMax x ≠ 0#1)
    (htaps : x.ponTaps ≠ 2#8) (hhold : flagButton x = 1#1 ∨ x.ponPress = 0#16) : ponTapDetect p x =
    if p.tapWindow ≤ (inc16 x.ponTimer).toNat then ponRunning x
    else if flagButton x = 1#1 then { x with ponTimer := inc16 x.ponTimer, ponPress := inc16 x.ponPress }
    else { x with ponTimer := inc16 x.ponTimer } := by
  rw [ponTapDetect_of_polled hthrottle htaps]
  by_cases hbutton : flagButton x = 1#1
  · rw [ponTapButton_of_pressed (x := timed x) hbutton, ponTapDecide_of_window, if_pos hbutton]
    · rfl
    · exact hstate
    · exact htaps
  · have hpress : x.ponPress = 0#16 := hhold.resolve_left hbutton
    rw [ponTapButton_of_idle (x := timed x) hbutton hpress, ponTapDecide_of_window, if_neg hbutton]
    · rfl
    · exact hstate
    · exact htaps

/-- A poll of TAP_DETECT, whatever the tap count. -/
theorem ponTapDetect_eq (hstate : x.ponState = 1#3) : ponTapDetect p x =
    if flagThrMax x = 0#1 then ponRunning x
    else if x.ponTaps = 2#8 then { x with ponState := 2#3, ponTimer := 0#16, ponPress := 0#16 }
    else if flagButton x = 0#1 ∧ x.ponPress ≠ 0#16 then
      if p.tapMax < x.ponPress.toNat then ponRunning x
      else if x.ponTaps = 1#8 then { x with ponState := 2#3, ponTimer := 0#16, ponTaps := 2#8, ponPress := 0#16 }
      else if p.tapWindow ≤ (inc16 x.ponTimer).toNat then ponRunning x
      else { x with ponTimer := inc16 x.ponTimer, ponTaps := x.ponTaps + 1#8, ponPress := 0#16 }
    else if p.tapWindow ≤ (inc16 x.ponTimer).toNat then ponRunning x
    else if flagButton x = 1#1 then { x with ponTimer := inc16 x.ponTimer, ponPress := inc16 x.ponPress }
    else { x with ponTimer := inc16 x.ponTimer } := by
  by_cases hthrottle : flagThrMax x = 0#1
  · rw [if_pos hthrottle]
    exact if_pos hthrottle
  rw [if_neg hthrottle]
  by_cases htaps : x.ponTaps = 2#8
  · rw [if_pos htaps]
    exact (if_neg hthrottle).trans (if_pos htaps)
  rw [if_neg htaps]
  by_cases hrelease : flagButton x = 0#1 ∧ x.ponPress ≠ 0#16
  · obtain ⟨hbutton, hpress⟩ := hrelease
    rw [if_pos ⟨hbutton, hpress⟩, ponTapDetect_of_release hstate hthrottle htaps (by simp [hbutton]) hpress]
  · have hhold : flagButton x = 1#1 ∨ x.ponPress = 0#16 :=
      (BitVec.eq_zero_or_eq_one (flagButton x)).symm.imp_right fun hzero => not_not.1 fun h => hrelease ⟨hzero, h⟩
    rw [if_neg hrelease, ponTapDetect_of_no_release hstate hthrottle htaps hhold]

end

/-- Settles O58: a legal count that is neither 2 nor 1 is 0, and one tap more is 1. -/
theorem ponstepDetectsTaps : Obligations.PonstepDetectsTaps := by
  intro s hrun hstate htaps
  refine ⟨_, exec_sample_running hrun, ?_⟩
  rw [exec_ponstep_polls hrun (by simp [hstate]), ponPoll_tapDetect (by simpa using hstate),
    ponTapDetect_eq (by simpa using hstate)]
  have hcounts : s.regs.ponTaps = 0#8 ∨ s.regs.ponTaps = 1#8 ∨ s.regs.ponTaps = 2#8 := by bv_omega
  simp only [samplePorts_regs, flagThrMax_latch, flagButton_latch, inc16_toNat, ← inc16_eq]
  rcases hcounts with h | h | h <;> simp only [latch_keeps, h] <;> rfl

/-! ### The moves of the power-on sequence (R170) -/

/-- What one poll in the state `x` of the power-on sequence can make of it. -/
inductive PonMove (p : Params) (x : Regs) : Regs → Prop
  /-- Nothing to do yet, or no case for the state. -/
  | stay : PonMove p x x
  | run : PonMove p x (ponRunning x)
  | released (hstate : x.ponState = 0#3) : PonMove p x (ponEnter 1#3 x)
  /-- TAP_DETECT goes on, with a first tap at most. -/
  | tapping {y : Regs} (hstate : x.ponState = 1#3) (hstays : y.ponState = 1#3)
      (htaps : y.ponTaps = x.ponTaps ∨ x.ponTaps ≠ 1#8 ∧ y.ponTaps = x.ponTaps + 1#8) : PonMove p x y
  | window {y : Regs} (hstate : x.ponState = 1#3) (henters : y.ponState = 2#3) (htaps : y.ponTaps = 2#8)
      (hthrottle : flagThrMax x ≠ 0#1) : PonMove p x y
  | counting {y : Regs} (hstate : x.ponState = 2#3) (hstays : y.ponState = 2#3) (htaps : y.ponTaps = x.ponTaps) :
      PonMove p x y
  | calibrate {y : Regs} (hstate : x.ponState = 2#3) (henters : y.ponState = 3#3) (htaps : y.ponTaps = x.ponTaps)
      (hbutton : flagButton x = 1#1) (hlong : p.longHold ≤ x.ponPress.toNat + 1) : PonMove p x y

section
variable {p : Params} {x : Regs}

theorem ponMove_waitRelease (hstate : x.ponState = 0#3) : PonMove p x (ponWaitRelease p x) := by
  rw [ponWaitRelease_eq]
  split
  · exact .stay
  · split
    · exact .released hstate
    · exact .run

theorem ponMove_tapDetect (hstate : x.ponState = 1#3) : PonMove p x (ponTapDetect p x) := by
  rw [ponTapDetect_eq hstate]
  split
  · exact .run
  next hthrottle =>
  split
  · next htwo => exact .window hstate rfl htwo hthrottle
  split
  · split
    · exact .run
    split
    · exact .window hstate rfl rfl hthrottle
    next hone =>
    split
    · exact .run
    · exact .tapping hstate hstate (.inr ⟨hone, rfl⟩)
  split
  · exact .run
  split
  · exact .tapping hstate hstate (.inl rfl)
  · exact .tapping hstate hstate (.inl rfl)

theorem ponMove_calWindow (hstate : x.ponState = 2#3) : PonMove p x (ponCalWindow p x) := by
  rw [ponCalWindow_eq]
  split
  · next hbutton =>
    split
    · next hlong => exact .calibrate hstate rfl rfl hbutton (by omega)
    · exact .counting hstate hstate rfl
  · split
    · exact .run
    · exact .counting hstate hstate rfl

theorem ponMove_calActive : PonMove p x (ponCalActive x) := by
  unfold ponCalActive
  split
  · exact .run
  · exact .stay

/-- All that one poll can do. -/
theorem ponMove_ponPoll (p : Params) (x : Regs) : PonMove p x (ponPoll p x) := by
  have hstate {n : BitVec 3} (h : x.ponState.toNat = n.toNat) : x.ponState = n := BitVec.eq_of_toNat_eq h
  unfold ponPoll
  split
  · next h => exact ponMove_waitRelease (hstate h)
  · next h => exact ponMove_tapDetect (hstate h)
  · next h => exact ponMove_calWindow (hstate h)
  · exact ponMove_calActive
  · exact .stay

end

/-! ### The power-on registers in a step without loads (45_register_access.md R186) -/

/-- The registers of the power-on sequence (10_state.md R41). -/
def ponRegs (x : Regs) := (x.ponState, x.ponTimer, x.ponTaps, x.ponPress)

/-- Of the commands only the loads and PONSTEP write them. -/
theorem commandResult_keeps_ponRegs {s t : State} {i : Instr} (hload : isLoad i = false) (hponstep : i ≠ .ponstep)
    (h : commandResult s i = .ok t) : ponRegs t.regs = ponRegs s.regs := by
  cases i with
  | ldi | ldhi => cases hload
  | ponstep => exact absurd rfl hponstep
  | rd sel =>
    obtain ⟨hregs, -⟩ := readRegister_ok h
    rw [hregs]
  | ebrake =>
    simp only [commandResult] at h
    split at h
    · cases h; simp [ponRegs]
    · cases h
  | tick => rw [commandResult_tick_ok h]; simp [ponRegs, runTick]
  | _ => cases h; simp [ponRegs]

/-- What a step without loads makes of the power-on registers: reset, nothing, or one poll before the run phase. -/
inductive PonStep (s t : State) : Prop
  | reset (hrst : s.nextEvent.rst = true) (hregs : t.regs = Regs.reset)
  | keep (hpon : ponRegs t.regs = ponRegs s.regs)
  | poll (hphase : s.regs.ponState ≠ 4#3) (v : Sample) (hregs : t.regs = ponPoll s.params (latch v s.regs))

/-- PONSTEP as a command has its effect before the run phase alone. -/
theorem ponStep_of_exec {s t : State} {i : Instr} (hload : isLoad i = false) (h : exec i s.eventTaken = .next t) :
    PonStep s t := by
  obtain hok | ⟨e, rfl⟩ := exec_cases s.eventTaken h
  case inr => exact .keep (by simp [ponRegs])
  by_cases hponstep : i = .ponstep
  · subst hponstep
    have ht := commandResult_ponstep_ok hok
    have hphase : s.regs.ponState ≠ 4#3 := by
      intro hrun
      simp [commandResult, State.inRunPhase, hrun] at hok
    exact .poll hphase _ (by rw [ht, runPonstep_eq, eventTaken_regs, eventTaken_params])
  · exact .keep ((commandResult_keeps_ponRegs hload hponstep hok).trans (by rw [eventTaken_regs]))

theorem ponStep_of_step {s t : State}
    (hnoLoad : ∀ w i, s.nextEvent.cmd = some w → decode w = .ok i → isLoad i = false) (h : step s = .next t) :
    PonStep s t := by
  obtain ⟨hrst, rfl⟩ | ⟨-, -, -, rfl⟩ | ⟨-, -, -, -, rfl⟩ | ⟨-, -, -, hphase, rfl⟩ |
    ⟨-, -, w, i, hcmd, -, hdec, hexec⟩ | ⟨-, -, w, e, -, -, -, rfl⟩ | ⟨-, -, -, rfl⟩ := step_cases h
  · exact .reset hrst rfl
  · exact .keep (by simp)
  · exact .keep (by simp [ponRegs, runTick])
  · exact .poll hphase _ (by rw [runPonstep_eq, eventTaken_regs, eventTaken_params])
  · exact ponStep_of_exec (hnoLoad w i hcmd (decode_of_decodeChecked hdec)) hexec
  · exact .keep (by simp [ponRegs])
  · exact .keep (by simp)

/-! ### The invariant and the transitions of the power-on sequence (R170, R171) -/

theorem PonInv.congr {x y : Regs} (hx : PonInv x) (hpon : ponRegs y = ponRegs x) : PonInv y := by
  simp only [ponRegs, Prod.mk.injEq] at hpon
  obtain ⟨hstate, htimer, htaps, hpress⟩ := hpon
  constructor
  case waiting => rw [hstate, htaps, htimer, hpress]; exact hx.waiting
  case tapping => rw [hstate, htaps]; exact hx.tapping
  case calibrating => rw [hstate, htaps]; exact hx.calibrating
  case running => rw [hstate, htaps, htimer, hpress]; exact hx.running
  case legal => rw [hstate]; exact hx.legal

theorem ponRegs_latch (v : Sample) (x : Regs) : ponRegs (latch v x) = ponRegs x := by simp [ponRegs]

theorem ponInv_reset : PonInv Regs.reset := by
  constructor <;> decide

section
variable {p : Params} {x y : Regs}

/-- In TAP_DETECT the invariant speaks of the tap count alone. -/
theorem ponInv_of_tapping (hstate : y.ponState = 1#3) (htaps : y.ponTaps.toNat ≤ 1) : PonInv y := by
  constructor <;> simp [hstate, htaps]

theorem ponInv_of_calibrating (hstate : y.ponState = 2#3 ∨ y.ponState = 3#3) (htaps : y.ponTaps = 2#8) :
    PonInv y := by
  obtain h | h := hstate <;> constructor <;> simp [h, htaps]

theorem ponInv_ponRunning (x : Regs) : PonInv (ponRunning x) := by
  constructor <;> simp [ponRunning]

theorem ponInv_of_ponMove (hx : PonInv x) (hmove : PonMove p x y) : PonInv y := by
  cases hmove with
  | stay => exact hx
  | run => exact ponInv_ponRunning x
  | released => exact ponInv_of_tapping rfl (Nat.zero_le 1)
  | tapping hstate hstays htaps =>
    have hle := hx.tapping hstate
    exact ponInv_of_tapping hstays (by bv_omega)
  | window _ henters htaps => exact ponInv_of_calibrating (.inl henters) htaps
  | counting hstate hstays htaps =>
    exact ponInv_of_calibrating (.inl hstays) (htaps.trans (hx.calibrating (.inl hstate)))
  | calibrate hstate henters htaps =>
    exact ponInv_of_calibrating (.inr henters) (htaps.trans (hx.calibrating (.inl hstate)))

/-- CAL_ACTIVE is entered from CAL_WINDOW by a long press. -/
theorem calActive_of_ponMove (hmove : PonMove p x y) (hbefore : x.ponState ≠ 3#3) (hafter : y.ponState = 3#3) :
    x.ponState = 2#3 ∧ p.longHold ≤ x.ponPress.toNat + 1 ∧ flagButton x = 1#1 := by
  cases hmove with
  | calibrate hstate _ _ hbutton hlong => exact ⟨hstate, hlong, hbutton⟩
  | stay => exact absurd hafter hbefore
  | run => simp [ponRunning] at hafter
  | released => simp [ponEnter] at hafter
  | tapping _ hother | window _ hother | counting _ hother => simp [hother] at hafter

/-- CAL_WINDOW is entered from TAP_DETECT with two taps at maximum throttle. -/
theorem calWindow_of_ponMove (hmove : PonMove p x y) (hbefore : x.ponState ≠ 2#3) (hafter : y.ponState = 2#3) :
    x.ponState = 1#3 ∧ y.ponTaps = 2#8 ∧ flagThrMax x ≠ 0#1 := by
  cases hmove with
  | window hstate _ htaps hthrottle => exact ⟨hstate, htaps, hthrottle⟩
  | stay => exact absurd hafter hbefore
  | run => simp [ponRunning] at hafter
  | released => simp [ponEnter] at hafter
  | counting hstate => exact absurd hstate hbefore
  | tapping _ hother | calibrate _ hother => simp [hother] at hafter

end

/-- Settles O15, by the moves of one poll from the registers as sampled. -/
theorem powerOnInvariantWithoutLoads : Obligations.PowerOnInvariantWithoutLoads := by
  refine ⟨ponInv_reset, fun s t hs hnoLoad h => ?_⟩
  cases ponStep_of_step hnoLoad h with
  | reset _ hregs => rw [hregs]; exact ponInv_reset
  | keep hpon => exact hs.congr hpon
  | poll _ v hregs =>
    rw [hregs]
    exact ponInv_of_ponMove (hs.congr (ponRegs_latch v s.regs)) (ponMove_ponPoll _ _)

/-- Settles O16: a poll changes the state by one of its moves, and the flags it reads are those it leaves. -/
theorem powerOnTransitionsWithoutLoads : Obligations.PowerOnTransitionsWithoutLoads := by
  intro s t hnoLoad hrst h
  cases ponStep_of_step hnoLoad h with
  | reset hreset => simp [hrst] at hreset
  | keep hpon =>
    simp only [ponRegs, Prod.mk.injEq] at hpon
    obtain ⟨hstate, htimer, htaps, hpress⟩ := hpon
    rw [hstate]
    exact ⟨fun hrun => ⟨hrun, htimer, htaps, hpress⟩, fun hbefore hafter => absurd hafter hbefore,
      fun hbefore hafter => absurd hafter hbefore⟩
  | poll hphase v hregs =>
    have hmove := ponMove_ponPoll s.params (latch v s.regs)
    have hflags : t.regs.flagsIn = (latch v s.regs).flagsIn := by simp [hregs]
    rw [hflags]
    refine ⟨fun hrun => absurd hrun hphase, fun hbefore hafter => ?calActive, fun hbefore hafter => ?calWindow⟩
    case calActive =>
      obtain ⟨hstate, hlong, hbutton⟩ := calActive_of_ponMove hmove (by simpa using hbefore) (hregs ▸ hafter)
      exact ⟨by simpa using hstate, by simpa using hlong, (flagBit_eq_one_iff _ 5).1 hbutton⟩
    case calWindow =>
      obtain ⟨hstate, htaps, hthrottle⟩ := calWindow_of_ponMove hmove (by simpa using hbefore) (hregs ▸ hafter)
      have hmax : flagThrMax (latch v s.regs) = 1#1 := (BitVec.eq_zero_or_eq_one _).resolve_left hthrottle
      exact ⟨by simpa using hstate, hregs ▸ htaps, (flagBit_eq_one_iff _ 6).1 hmax⟩

/-! ### TICK (R166, R169) -/

/-- The registers that no stage of a TICK after its SAMPLE writes: the sampled ones, the power-on ones, the record. -/
def unstaged (x : Regs) :=
  ((x.cmdSteer, x.cmdSpeed, x.spdL, x.spdR, x.tempRaw, x.bat, x.faultL, x.faultR, x.flagsIn), ponRegs x,
    (x.errCause, x.errWord))

theorem runTick_unstaged (s : State) : unstaged (runTick s).regs = unstaged (samplePorts s).regs := by
  simp [unstaged, ponRegs, runTick]

/-- Beside the registers a TICK changes what its SAMPLE changes. -/
theorem runTick_frame (s : State) : runTick s = { samplePorts s with regs := (runTick s).regs } := rfl

/-- The rate limiters see this tick's commands and the last tick's states; XITION keeps what they leave (R150). -/
theorem runTick_rsSteer (s : State) : (runTick s).regs.rsSteer =
    limited s.portValues.cmdSteer s.params.rate.toNat s.regs.rsSteer := by
  rw [runTick_eq]
  simp only [safetyStages_keeps, outputStages_keeps]
  rw [shapingStages_frame]
  rfl

theorem runTick_rsSpeed (s : State) : (runTick s).regs.rsSpeed =
    limited s.portValues.cmdSpeed s.params.rate.toNat s.regs.rsSpeed := by
  rw [runTick_eq]
  simp only [safetyStages_keeps, outputStages_keeps]
  rw [shapingStages_frame]
  rfl

/-- The motor registers: the two commands and the two outputs. -/
def motorRegs (x : Regs) := (x.motL, x.motR, x.outL, x.outR)

/-- What a TICK leaves in the motor registers is what its MIX and its OUT make of the shaped commands. -/
theorem runTick_motorRegs (s : State) : motorRegs (runTick s).regs = motorRegs (assignOutputs s.params
    (mixCommands s.params (shapingStages s.params (latch s.portValues s.regs)))) := by
  simp [motorRegs, runTick, outputStages]

/-- A command within `P_OUT_MAX` is handed over without saturation: -32768 is not among them. -/
theorem toInt_store_polarity_of_le {p : Params} (inv : Bool) {v : Half} (hv : v.toInt.natAbs ≤ p.outMax) :
    (store 16 (polarity inv v.toInt)).toInt = if inv then -v.toInt else v.toInt := by
  obtain ⟨-, hmax⟩ := p.outMax_range
  have hneg : min 32767 (-v.toInt) = -v.toInt := by omega
  rw [toInt_store_polarity, hneg]

theorem runTick_cause (s : State) : (runTick s).regs.cause = ruleNumber
    (winningRule s.params (outputStages s.params (shapingStages s.params (latch s.portValues s.regs)))) := by
  simp only [runTick_eq, safetyStages_eq, transition_keeps, arbitrate]

theorem ruleNumber_pos (r : SafetyRule) : 1 ≤ (ruleNumber r).toNat := by cases r <;> decide

/-- Both commands are in the output range, and each output is its command by its motor's polarity (R132, R134). -/
theorem runTick_motors (s : State) :
    (runTick s).regs.motL.toInt.natAbs ≤ s.params.outMax ∧ (runTick s).regs.motR.toInt.natAbs ≤ s.params.outMax ∧
    (runTick s).regs.outL.toInt =
      (if s.params.invL then -(runTick s).regs.motL.toInt else (runTick s).regs.motL.toInt) ∧
    (runTick s).regs.outR.toInt =
      (if s.params.invR then -(runTick s).regs.motR.toInt else (runTick s).regs.motR.toInt) := by
  have hview := runTick_motorRegs s
  simp only [motorRegs, Prod.mk.injEq] at hview
  obtain ⟨hmotL, hmotR, houtL, houtR⟩ := hview
  rw [hmotL, hmotR, houtL, houtR]
  have hrange := natAbs_store_clamp_outMax_le s.params
  exact ⟨hrange _, hrange _, toInt_store_polarity_of_le _ (hrange _), toInt_store_polarity_of_le _ (hrange _)⟩

/-- Settles O53, from what a TICK leaves in each group of registers. -/
theorem tickCompletes : Obligations.TickCompletes := by
  intro s hrun hphase
  refine ⟨samplePorts s, runTick s, exec_sample_running hrun, exec_tick_running hrun hphase, ?_⟩
  have hview := runTick_unstaged s
  simp only [unstaged, ponRegs, Prod.mk.injEq] at hview
  obtain ⟨⟨hsteer, hspeed, hspdL, hspdR, htemp, hbat, hfaultL, hfaultR, hflags⟩, ⟨hstate, htimer, htaps, hpress⟩,
    herrCause, herrWord⟩ := hview
  obtain ⟨hmotL, hmotR, houtL, houtR⟩ := runTick_motors s
  have hcause := runTick_cause s
  refine ⟨hsteer, hspeed, hspdL, hspdR, htemp, hbat, hfaultL, hfaultR, hflags, ?rsSteer, ?rsSpeed, hmotL, hmotR,
    houtL, houtR, hcause ▸ ruleNumber_pos _, hcause ▸ ruleNumber_le _, ?count, hstate, htimer, htaps, hpress,
    herrCause, herrWord, runTick_frame s⟩
  case rsSteer => rw [runTick_rsSteer, toInt_limited]; rfl
  case rsSpeed => rw [runTick_rsSpeed, toInt_limited]; rfl
  case count => rw [runTick_tickCnt]; exact BitVec.toNat_add _ _

/-! ### A TICK as its stage commands (R166, R217) -/

/-- What a command leaves in a running block. -/
def afterCommand (s : State) (i : Instr) : State :=
  match commandResult s i with
  | .ok t => t
  | .error e => raiseError e (encode i) s

theorem runCommands_nil (s : State) : runCommands [] s = some s := rfl

theorem runCommands_cons_running {s : State} (hrun : s.regs.poweroff = 0#1) (i : Instr) (rest : List Instr) :
    runCommands (i :: rest) s = runCommands rest (afterCommand s i) := by
  rw [runCommands, exec_running s hrun, afterCommand]
  cases commandResult s i <;> rfl

/-- Micro-ops 2 to 10 of TICK as commands. -/
def shapingCommands (p : Params) : List Instr :=
  [.blend, .rls p.rate, .rlv p.rate, .lpfs p.filter, .lpfv p.filter, .shps, .shpv, .derate]
    ++ (if p.ebrakeEn then [.ebrake] else [])

/-- Micro-ops 11 to 14 of TICK as commands. -/
def outputCommands (p : Params) : List Instr := [.mix, .out, .lpft p.tempCoef, .shpt]

/-- Micro-ops 15 to 18 of TICK as commands. -/
def safetyCommands : List Instr := [.safety, .xition, .inact, .fbstrobe]

theorem tickCommands_eq (p : Params) :
    tickCommands p = .sample :: (shapingCommands p ++ (outputCommands p ++ safetyCommands)) := by
  simp [tickCommands, shapingCommands, outputCommands, safetyCommands]

section
variable {s : State} (hrun : s.regs.poweroff = 0#1) (rest : List Instr)
include hrun

/-- None of these stages powers off, so each command finds the block running and leaves what its stage leaves. -/
theorem runCommands_shaping :
    runCommands (shapingCommands s.params ++ rest) s = runCommands rest (onRegs shapingStages s) := by
  cases hbuilt : s.params.ebrakeEn <;>
    simp [shapingCommands, hbuilt, runCommands_cons_running, afterCommand, commandResult, hrun, onRegs, shapingStages,
      brakeIfBuilt]

theorem runCommands_output :
    runCommands (outputCommands s.params ++ rest) s = runCommands rest (onRegs outputStages s) := by
  simp [outputCommands, runCommands_cons_running, afterCommand, commandResult, hrun, onRegs, outputStages]

end

/-- No stage after a power-off takes it back, so a tick that ends running was running at each of its last stages. -/
theorem running_of_safetyStages {p : Params} {x : Regs} (h : (safetyStages p x).poweroff = 0#1) :
    (arbitrate p x).poweroff = 0#1 ∧ (checkInactivity p (transition p (arbitrate p x))).poweroff = 0#1 := by
  have hinact : (checkInactivity p (transition p (arbitrate p x))).poweroff = 0#1 := by simpa [safetyStages] using h
  refine ⟨(BitVec.eq_zero_or_eq_one _).resolve_right fun hoff => ?_, hinact⟩
  have hset : (transition p (arbitrate p x)).poweroff = 1#1 := by simpa using hoff
  rw [checkInactivity_poweroff_of_set hset] at hinact
  exact absurd hinact (by decide)

theorem runCommands_safety {s : State} (hrun : s.regs.poweroff = 0#1)
    (hend : (safetyStages s.params s.regs).poweroff = 0#1) :
    runCommands safetyCommands s = some (onRegs safetyStages s) := by
  obtain ⟨harbitrate, hinact⟩ := running_of_safetyStages hend
  simp [safetyCommands, runCommands_cons_running, runCommands_nil, afterCommand, commandResult, hrun, harbitrate,
    hinact, onRegs, safetyStages]

/-- Settles O54, by the three groups of stages after SAMPLE. -/
theorem tickIsItsStagesInOrder : Obligations.TickIsItsStagesInOrder := by
  intro s t hrun hphase htick hend
  obtain rfl : runTick s = t := by simpa [exec_tick_running hrun hphase] using htick
  have hsampled : (samplePorts s).regs.poweroff = 0#1 := by simpa using hrun
  have hshaped : (onRegs shapingStages (samplePorts s)).regs.poweroff = 0#1 := by simpa using hrun
  have hassigned : (onRegs outputStages (onRegs shapingStages (samplePorts s))).regs.poweroff = 0#1 := by
    simpa using hrun
  rw [runTick_eq_onRegs] at hend ⊢
  calc runCommands (tickCommands s.params) s
      = runCommands (shapingCommands (samplePorts s).params
          ++ (outputCommands (samplePorts s).params ++ safetyCommands)) (samplePorts s) := by
        rw [tickCommands_eq, runCommands_cons_running hrun, samplePorts_params]
        rfl
    _ = runCommands (outputCommands (samplePorts s).params ++ safetyCommands) (onRegs shapingStages (samplePorts s)) :=
        runCommands_shaping hsampled _
    _ = runCommands safetyCommands (onRegs outputStages (onRegs shapingStages (samplePorts s))) :=
        runCommands_output hshaped _
    _ = some (onRegs safetyStages (onRegs outputStages (onRegs shapingStages (samplePorts s)))) :=
        runCommands_safety hassigned hend

end Sys2Proof.Machine

/-! ## The register access family: the loads, RD, NOP, CLRERR, and what SAMPLE overwrites -/

namespace Sys2Proof.Machine

/-! ### LDI and LDHI of a register of R21 (45_register_access.md R181, R182) -/

theorem readOnly_iff_mem (r : Reg) : regReadOnly r = true ↔
    r ∈ [Reg.outL, .outR, .speedAvg, .speedAvgAbs, .speedBlend, .tempFilt, .poweroff, .cause, .alert, .fbStrobe,
      .errCause, .errWord] := by
  cases r <;> decide

theorem writable_narrow_of_mem {r : Reg}
    (h : r ∈ [Reg.cmdSteer, .cmdSpeed, .rsSteer, .rsSpeed, .motL, .motR, .sdc, .spdL, .spdR, .tempRaw, .bat, .faultL,
      .faultR, .flagsIn, .enable, .backward, .ponState, .ponTimer, .ponTaps, .ponPress]) :
    regReadOnly r = false ∧ regWidth r ≠ 32 := by
  revert r; decide

section
variable (s : State) (imm : Half) {r : Reg}

theorem loadImmediate_regSel : loadImmediate (regSel r) imm s =
    if regReadOnly r then .error .readOnly
    else if regLegal r (ldiValue r imm) then .ok { s with regs := regSet s.regs (ldiValue r imm) r }
    else .error .illegalValue := by
  rw [loadImmediate, regAt_regSel]

theorem loadHigh_regSel : loadHigh (regSel r) imm s =
    if regReadOnly r then .error .readOnly
    else if regWidth r = 32 then .ok { s with regs := regSet s.regs (ldhiValue s.regs r imm) r }
    else .error .notWide := by
  rw [loadHigh, regAt_regSel]

theorem exec_ldi_of_error {sel : Sel} {e : CmdError} (hrun : s.regs.poweroff = 0#1)
    (herror : loadImmediate sel imm s = .error e) :
    exec (.ldi sel imm) s = .next (errorRecorded s (errorCode e) (encode (.ldi sel imm))) :=
  exec_of_error (exec_running s hrun _) herror

theorem exec_ldhi_of_error {sel : Sel} {e : CmdError} (hrun : s.regs.poweroff = 0#1)
    (herror : loadHigh sel imm s = .error e) :
    exec (.ldhi sel imm) s = .next (errorRecorded s (errorCode e) (encode (.ldhi sel imm))) :=
  exec_of_error (exec_running s hrun _) herror

theorem loadImmediate_readOnly (hreadOnly : regReadOnly r = true) :
    loadImmediate (regSel r) imm s = .error .readOnly := by
  rw [loadImmediate_regSel, if_pos hreadOnly]

theorem loadHigh_readOnly (hreadOnly : regReadOnly r = true) : loadHigh (regSel r) imm s = .error .readOnly := by
  rw [loadHigh_regSel, if_pos hreadOnly]

theorem loadImmediate_illegal (hwritable : regReadOnly r = false) (hillegal : ¬ regLegal r (ldiValue r imm) = true) :
    loadImmediate (regSel r) imm s = .error .illegalValue := by
  rw [loadImmediate_regSel, if_neg (by simp [hwritable]), if_neg hillegal]

theorem loadImmediate_legal (hwritable : regReadOnly r = false) (hlegal : regLegal r (ldiValue r imm) = true) :
    loadImmediate (regSel r) imm s = .ok { s with regs := regSet s.regs (ldiValue r imm) r } := by
  rw [loadImmediate_regSel, if_neg (by simp [hwritable]), if_pos hlegal]

theorem loadHigh_narrow (hwritable : regReadOnly r = false) (hnarrow : regWidth r ≠ 32) :
    loadHigh (regSel r) imm s = .error .notWide := by
  rw [loadHigh_regSel, if_neg (by simp [hwritable]), if_neg hnarrow]

end

/-! ### The legal immediates of LDI (R181) -/

/-- The greatest immediate that LDI of a writable register takes. -/
def immBound : Reg → Nat
  | .sdc => 100
  | .enable | .backward => 1
  | .faultL | .faultR | .flagsIn => 255
  | .ponState => 4
  | .ponTaps => 2
  | _ => 65535

/-- A writable signed register holds every sign-extended immediate; an unsigned one, those up to its bound (R21). -/
theorem regRange_of_writable {r : Reg} (hwritable : regReadOnly r = false) :
    if regSigned r then regLo r ≤ -32768 ∧ 32767 ≤ regHi r ∧ immBound r = 65535
    else regLo r = 0 ∧ (immBound r : Int) = min (regHi r) 65535 := by
  cases r with
  | outL | outR | speedAvg | speedAvgAbs | speedBlend | tempFilt | poweroff | cause | alert | fbStrobe | errCause
  | errWord => cases hwritable
  | _ => decide

theorem regLegal_ldiValue_iff {r : Reg} (hwritable : regReadOnly r = false) (imm : Half) :
    regLegal r (ldiValue r imm) = true ↔ imm.toNat ≤ immBound r := by
  have hrange := regRange_of_writable hwritable
  have hlt := imm.isLt
  have hge := toInt16_ge imm
  have hle := toInt16_le imm
  rw [regLegal, decide_eq_true_eq, ldiValue]
  split at hrange
  · next hsigned => rw [if_pos hsigned]; omega
  · next hunsigned => rw [if_neg hunsigned]; omega

/-- The immediates out of range, register by register: the list of R181. -/
theorem immBound_lt_iff (r : Reg) (imm : Half) : immBound r < imm.toNat ↔
    (r = .sdc ∧ 100 < imm.toNat) ∨ ((r = .enable ∨ r = .backward) ∧ 1 < imm.toNat) ∨
      ((r = .faultL ∨ r = .faultR ∨ r = .flagsIn) ∧ 255 < imm.toNat) ∨ (r = .ponState ∧ 4 < imm.toNat) ∨
      (r = .ponTaps ∧ 2 < imm.toNat) := by
  have hlt := imm.isLt
  cases r <;> simp [immBound] <;> omega

/-- Every read-only register has the greatest bound, so an immediate above its bound names a writable register. -/
theorem writable_of_immBound_lt {r : Reg} {imm : Half} (h : immBound r < imm.toNat) : regReadOnly r = false := by
  have hlt := imm.isLt
  have hbound : immBound r < 65535 := by omega
  clear h
  revert hbound
  cases r <;> decide

/-- Settles O24: each refusal is the first of R181's and R182's checks that fails. -/
theorem loadsRefuseByName : Obligations.LoadsRefuseByName := by
  intro s r imm hrun
  refine ⟨fun hmem => ?_, fun hvalue => ?_, fun hmem => ?_⟩
  · have hreadOnly := (readOnly_iff_mem r).2 hmem
    exact ⟨exec_ldi_of_error s imm hrun (loadImmediate_readOnly s imm hreadOnly),
      exec_ldhi_of_error s imm hrun (loadHigh_readOnly s imm hreadOnly)⟩
  · have hbound := (immBound_lt_iff r imm).2 hvalue
    have hwritable := writable_of_immBound_lt hbound
    have hillegal := mt (regLegal_ldiValue_iff hwritable imm).1 (not_le.2 hbound)
    exact exec_ldi_of_error s imm hrun (loadImmediate_illegal s imm hwritable hillegal)
  · obtain ⟨hwritable, hnarrow⟩ := writable_narrow_of_mem hmem
    exact exec_ldhi_of_error s imm hrun (loadHigh_narrow s imm hwritable hnarrow)

/-! ### What a load writes -/

theorem exec_ldi_legal {s : State} {r : Reg} {imm : Half} (hrun : s.regs.poweroff = 0#1)
    (hwritable : regReadOnly r = false) (hlegal : regLegal r (ldiValue r imm) = true) :
    exec (.ldi (regSel r) imm) s = .next { s with regs := regSet s.regs (ldiValue r imm) r } := by
  rw [exec_running s hrun, commandResult, loadImmediate_legal s imm hwritable hlegal, finish_ok]

/-- The writable registers of signed type (R21). -/
theorem signed_iff_mem_of_writable {r : Reg} (hwritable : regReadOnly r = false) : regSigned r = true ↔
    r ∈ [Reg.cmdSteer, .cmdSpeed, .rsSteer, .rsSpeed, .accSteer, .accSpeed, .accTemp, .steer, .speed, .motL, .motR,
      .spdL, .spdR, .tempRaw, .bat] := by
  revert hwritable
  cases r <;> decide

/-- Settles O28: the written register reads back LDI's value, and the write leaves the others alone. -/
theorem ldiWritesLegalValue : Obligations.LdiWritesLegalValue := by
  intro s r imm hrun hmem hsdc hbits hbytes hponState hponTaps
  have hwritable : regReadOnly r = false := Bool.eq_false_iff.2 (mt (readOnly_iff_mem r).1 hmem)
  have hbound : imm.toNat ≤ immBound r := by
    refine not_lt.1 (mt (immBound_lt_iff r imm).1 ?_)
    rintro (⟨hr, hgt⟩ | ⟨hr, hgt⟩ | ⟨hr, hgt⟩ | ⟨hr, hgt⟩ | ⟨hr, hgt⟩)
    · exact hgt.not_ge (hsdc hr)
    · exact hgt.not_ge (hbits hr)
    · exact hgt.not_ge (hbytes hr)
    · exact hgt.not_ge (hponState hr)
    · exact hgt.not_ge (hponTaps hr)
  have hlegal := (regLegal_ldiValue_iff hwritable imm).2 hbound
  exact ⟨_, exec_ldi_legal hrun hwritable hlegal,
    (regGet_regSet_self s.regs hlegal).trans (if_congr (signed_iff_mem_of_writable hwritable) rfl rfl),
    fun _ hq => regGet_regSet_other s.regs _ hq, rfl⟩

theorem ldhiPattern_toNat (x : Regs) (r : Reg) (imm : Half) :
    (ldhiPattern x r imm).toNat = imm.toNat * 65536 + (rd32 x r).toNat % 65536 := by
  rw [ldhiPattern, toNat_append_add, BitVec.extractLsb'_toNat, Nat.shiftRight_zero]
  rfl

theorem rd32_regSet_ldhiValue (x : Regs) {r : Reg} (hwritable : regReadOnly r = false) (hwide : regWidth r = 32)
    (imm : Half) : rd32 (regSet x (ldhiValue x r imm) r) r = ldhiPattern x r imm := by
  rw [rd32, regGet_regSet_self x (regLegal_ldhiValue x imm hwritable hwide), ofInt_ldhiValue]

/-- Settles O29: the written register reads back LDHI's pattern, and the write leaves the others alone. -/
theorem ldhiReplacesHighHalf : Obligations.LdhiReplacesHighHalf := by
  intro s imm hrun r hmem
  obtain ⟨hwritable, hwide⟩ := writable_wide_of_mem hmem
  exact ⟨_, exec_ldhi_wide hrun hwritable hwide imm,
    (congrArg BitVec.toNat (rd32_regSet_ldhiValue s.regs hwritable hwide imm)).trans (ldhiPattern_toNat s.regs r imm),
    fun _ hq => regGet_regSet_other s.regs _ hq, rfl⟩

/-! ### RD, NOP and CLRERR (R180, R183, R184) -/

theorem readRegister_regSel (s : State) (r : Reg) :
    readRegister (regSel r) s = .ok { s with rdata := rd32 s.regs r } := by
  rw [readRegister, regAt_regSel]

theorem exec_rd_regSel (s : State) (r : Reg) : exec (.rd (regSel r)) s = .next { s with rdata := rd32 s.regs r } := by
  rw [exec_exempt s (.inr ⟨_, rfl⟩), commandResult, readRegister_regSel, finish_ok]

/-- A register's 32-bit pattern is its value modulo 2^32 (R23). -/
theorem rd32_toNat (x : Regs) (r : Reg) : ((rd32 x r).toNat : Int) = regGet x r % 4294967296 := by
  rw [rd32, BitVec.toNat_ofInt]
  omega

/-- Settles O30: RD is exempt from HALTED. -/
theorem rdLatchesRegister : Obligations.RdLatchesRegister := fun s r =>
  ⟨_, exec_rd_regSel s r, rd32_toNat s.regs r, rfl⟩

/-- Settles O27: NOP is exempt from HALTED, and its result is the state itself. -/
theorem nopChangesNothing : Obligations.NopChangesNothing := fun s => exec_exempt s (.inl rfl)

/-- Settles O31: in a running block CLRERR's result is the cleared record. -/
theorem clrerrClearsRecord : Obligations.ClrerrClearsRecord := fun s hrun => exec_running s hrun .clrerr

/-! ### The sampled registers (R185) -/

/-- SAMPLE sees nothing of registers that the latch overwrites. -/
theorem samplePorts_of_latch_eq (s : State) {x : Regs} (h : ∀ v, latch v x = latch v s.regs) :
    samplePorts { s with regs := x } = samplePorts s := by
  have hlatch := h s.portValues
  rw [samplePorts_frame, samplePorts_frame s, ← hlatch]
  rfl

/-- Settles O56: TICK and PONSTEP begin with SAMPLE, which overwrites all nine registers. -/
theorem sampledRegistersDoNotReachTick : Obligations.SampledRegistersDoNotReachTick := by
  intro s cmdSteer cmdSpeed spdL spdR temp bat flags faultL faultR s' hrun
  have hsample : samplePorts s' = samplePorts s := samplePorts_of_latch_eq s fun _ => rfl
  refine ⟨fun hphase => ?_, fun hphase => ?_⟩
  · rw [exec_tick_running (s := s') hrun hphase, exec_tick_running hrun hphase, runTick, hsample, ← runTick]
  · rw [exec_ponstep_running (s := s') hrun hphase, exec_ponstep_running hrun hphase, runPonstep, hsample,
      ← runPonstep]

end Sys2Proof.Machine

/-! ## The exceptions family: the error record, halting, and that the block always goes on -/

namespace Sys2Proof.Machine

/-! ### What raises an error (60_exceptions.md R190) -/

/-- Settles O22: `errorRecorded` is the model's own record, and HALTED's code is 6. -/
theorem haltedCommandsRecordHalted : Obligations.HaltedCommandsRecordHalted := fun _ s hhalt hnop hrd =>
  exec_halted s hhalt hnop hrd

section
variable {s : State}

theorem commandResult_tick_wrongPhase (hphase : s.regs.ponState ≠ 4#3) :
    commandResult s .tick = .error .wrongPhase := if_neg fun h => hphase ((inRunPhase_iff s).1 h)

theorem commandResult_ponstep_wrongPhase (hphase : s.regs.ponState = 4#3) :
    commandResult s .ponstep = .error .wrongPhase := if_pos ((inRunPhase_iff s).2 hphase)

theorem commandResult_ebrake_notBuilt (hbuilt : s.params.ebrakeEn = false) :
    commandResult s .ebrake = .error .illegalOpcode := if_neg (by simp [hbuilt])

end

/-- Settles O25: each of the three commands ends in the error its own rule names. -/
theorem phaseAndBuildErrors : Obligations.PhaseAndBuildErrors := fun s hrun =>
  ⟨fun hphase => exec_of_error (exec_running s hrun .tick) (commandResult_tick_wrongPhase hphase),
    fun hphase => exec_of_error (exec_running s hrun .ponstep) (commandResult_ponstep_wrongPhase hphase),
    fun hbuilt => exec_of_error (exec_running s hrun .ebrake) (commandResult_ebrake_notBuilt hbuilt)⟩

/-! ### The parameters and the placed events (R195, R205, 70_reset_and_hazards.md R212) -/

section
variable {s t : State}

theorem readRegister_frame {sel : Sel} (h : readRegister sel s = .ok t) : t = { s with rdata := t.rdata } := by
  unfold readRegister at h
  split at h
  · cases h
  · cases h; rfl

theorem commandResult_ebrake_ok (h : commandResult s .ebrake = .ok t) : t = onRegs (fun _ x => brakeSpeed x) s := by
  simp only [commandResult] at h
  split at h
  · cases h; rfl
  · cases h

/-- A command's effect is on the registers, RDATA and the port values in store. -/
theorem commandResult_keeps_params_events {i : Instr} (h : commandResult s i = .ok t) :
    t.params = s.params ∧ t.events = s.events := by
  cases i with
  | ldi sel imm =>
    obtain ⟨r, -, -, rfl⟩ := loadImmediate_ok h
    exact ⟨rfl, rfl⟩
  | ldhi sel imm =>
    obtain ⟨r, -, -, rfl⟩ := loadHigh_ok h
    exact ⟨rfl, rfl⟩
  | rd sel => rw [readRegister_frame h]; exact ⟨rfl, rfl⟩
  | ebrake => rw [commandResult_ebrake_ok h]; exact ⟨rfl, rfl⟩
  | tick => rw [commandResult_tick_ok h]; simp [runTick]
  | ponstep => rw [commandResult_ponstep_ok h]; simp [runPonstep]
  | _ => cases h; simp

theorem exec_keeps_params_events {i : Instr} (h : exec i s = .next t) : t.params = s.params ∧ t.events = s.events := by
  obtain hok | ⟨e, rfl⟩ := exec_cases s h
  · exact commandResult_keeps_params_events hok
  · exact ⟨rfl, rfl⟩

theorem step_keeps_params (h : step s = .next t) : t.params = s.params := by
  rw [← eventTaken_params s]
  obtain ⟨-, rfl⟩ | ⟨-, -, -, rfl⟩ | ⟨-, -, -, -, rfl⟩ | ⟨-, -, -, -, rfl⟩ | ⟨-, -, w, i, -, -, -, hexec⟩ |
    ⟨-, -, w, e, -, -, -, rfl⟩ | ⟨-, -, -, rfl⟩ := step_cases h
  · rfl
  · rfl
  · simp [runTick]
  · simp [runPonstep]
  · exact (exec_keeps_params_events hexec).1
  · rfl
  · rfl

end

/-- Settles O12: there is a next state, and whichever it is, it has the parameters. -/
theorem blockAlwaysGoesOn : Obligations.BlockAlwaysGoesOn := by
  refine ⟨fun i s => ?_, fun s => ?_⟩
  · obtain ⟨t, ht⟩ := exec_goes_on i s
    exact ⟨t, ht, exec_keeps_params_events ht⟩
  · obtain ⟨t, ht⟩ := step_goes_on s
    exact ⟨t, ht, step_keeps_params ht⟩

/-! ### The first error is kept (R192) -/

/-- The error record (10_state.md R42). -/
def errorRecord (x : Regs) := (x.errCause, x.errWord)

section
variable {s t : State}

/-- Of the commands with an effect only CLRERR writes the record. -/
theorem commandResult_keeps_errorRecord {i : Instr} (hclrerr : i ≠ .clrerr) (h : commandResult s i = .ok t) :
    errorRecord t.regs = errorRecord s.regs := by
  cases i with
  | clrerr => exact absurd rfl hclrerr
  | ldi sel imm =>
    obtain ⟨r, hwritable, -, rfl⟩ := loadImmediate_ok h
    simp [errorRecord, regSet_keeps_readOnly s.regs _ hwritable]
  | ldhi sel imm =>
    obtain ⟨r, hwritable, -, rfl⟩ := loadHigh_ok h
    simp [errorRecord, regSet_keeps_readOnly s.regs _ hwritable]
  | rd sel => rw [readRegister_frame h]
  | ebrake => rw [commandResult_ebrake_ok h]; simp [errorRecord]
  | tick => rw [commandResult_tick_ok h]; simp [errorRecord, runTick_keeps_record]
  | ponstep => rw [commandResult_ponstep_ok h]; simp [errorRecord, runPonstep_keeps_record]
  | _ => cases h; simp [errorRecord]

/-- An error raised after the first one changes nothing at all. -/
theorem raiseError_kept (hrecorded : s.regs.errCause ≠ 0#4) (e : CmdError) (w : Word) : raiseError e w s = s := by
  rw [raiseError, recordError_kept hrecorded]

theorem exec_keeps_first_error {i : Instr} (hrecorded : s.regs.errCause ≠ 0#4) (hclrerr : i ≠ .clrerr)
    (h : exec i s = .next t) : errorRecord t.regs = errorRecord s.regs := by
  obtain hok | ⟨e, rfl⟩ := exec_cases s h
  · exact commandResult_keeps_errorRecord hclrerr hok
  · rw [raiseError_kept hrecorded]

theorem step_keeps_first_error (hrecorded : s.regs.errCause ≠ 0#4) (hrst : s.nextEvent.rst = false)
    (hclrerr : ∀ w, s.nextEvent.cmd = some w → w ≠ 0x00000004#32) (h : step s = .next t) :
    errorRecord t.regs = errorRecord s.regs := by
  rw [← eventTaken_regs s] at hrecorded ⊢
  obtain ⟨hreset, -⟩ | ⟨-, -, -, rfl⟩ | ⟨-, -, -, -, rfl⟩ | ⟨-, -, -, -, rfl⟩ | ⟨-, -, w, i, hcmd, -, hdec, hexec⟩ |
    ⟨-, -, w, e, -, -, -, rfl⟩ | ⟨-, -, -, rfl⟩ := step_cases h
  · simp [hrst] at hreset
  · rfl
  · simp [errorRecord, runTick_keeps_record]
  · simp [errorRecord, runPonstep_keeps_record]
  · refine exec_keeps_first_error hrecorded (fun hi => hclrerr w hcmd ?_) hexec
    rw [← encode_of_decodeChecked hdec, hi]
    rfl
  · rw [raiseError_kept hrecorded]
  · rfl

end

/-- Settles O26: no command but CLRERR writes the record, and CLRERR comes from its own word alone. -/
theorem firstErrorIsKept : Obligations.FirstErrorIsKept :=
  ⟨fun _ _ _ hrecorded hclrerr h => Prod.mk.inj (exec_keeps_first_error hrecorded hclrerr h),
    fun _ _ hrecorded hrst hclrerr h => Prod.mk.inj (step_keeps_first_error hrecorded hrst hclrerr h)⟩

/-! ### A halted block (R200) -/

section
variable {s t : State}

/-- All a command can do while halted: nothing, RD's latch, or an error. -/
theorem exec_halted_cases {i : Instr} (hhalt : s.regs.poweroff = 1#1) (h : exec i s = .next t) :
    t = s ∨ (∃ sel, i = .rd sel ∧ t = { s with rdata := t.rdata }) ∨ ∃ e, t = raiseError e (encode i) s := by
  obtain hok | herror := exec_cases s h
  case inr => exact .inr (.inr herror)
  by_cases hnop : i = .nop
  · subst hnop
    cases hok
    exact .inl rfl
  by_cases hrd : ∃ sel, i = .rd sel
  · obtain ⟨sel, rfl⟩ := hrd
    exact .inr (.inl ⟨sel, rfl, readRegister_frame hok⟩)
  · rw [exec_halted s hhalt hnop (not_exists.1 hrd)] at h
    cases h
    exact .inr (.inr ⟨_, rfl⟩)

/-- All a step without reset can do while halted; what a strobe does is nothing. -/
theorem step_halted_cases (hhalt : s.regs.poweroff = 1#1) (hrst : s.nextEvent.rst = false) (h : step s = .next t) :
    t = s.eventTaken ∨ s.nextEvent.tick = false ∧
      ((∃ sel, s.nextEvent.cmd = some (encode (.rd sel)) ∧ t = { s.eventTaken with rdata := t.rdata }) ∨
        ∃ e w, t = raiseError e w s.eventTaken) := by
  have hnotRunning : s.regs.poweroff ≠ 0#1 := by rw [hhalt]; decide
  obtain ⟨hreset, -⟩ | ⟨-, -, -, hidle⟩ | ⟨-, -, hrun, -⟩ | ⟨-, -, hrun, -⟩ | ⟨-, htick, w, i, hcmd, -, hdec, hexec⟩ |
    ⟨-, htick, w, e, -, -, -, herror⟩ | ⟨-, -, -, hidle⟩ := step_cases h
  · simp [hrst] at hreset
  · exact .inl hidle
  · exact absurd hrun hnotRunning
  · exact absurd hrun hnotRunning
  · obtain hsame | ⟨sel, rfl, hread⟩ | ⟨e, herror⟩ := exec_halted_cases (by rwa [eventTaken_regs]) hexec
    · exact .inl hsame
    · exact .inr ⟨htick, .inl ⟨sel, by rw [hcmd, encode_of_decodeChecked hdec], hread⟩⟩
    · exact .inr ⟨htick, .inr ⟨e, _, herror⟩⟩
  · exact .inr ⟨htick, .inr ⟨e, w, herror⟩⟩
  · exact .inl hidle

end

/-- The opcode of RD (30_encoding.md R84). -/
theorem encode_rd_opcode (sel : Sel) : (encode (.rd sel)).toNat % 256 = 0x03 := by
  simp [encode, encodeR_toNat]

/-- Settles O18: in each case of a halted step the registers change by an error's record at most, RDATA by RD's latch. -/
theorem haltedBlockHolds : Obligations.HaltedBlockHolds := by
  intro s t hhalt hrst h
  obtain rfl | ⟨htick, ⟨sel, hcmd, ht⟩ | ⟨e, w, rfl⟩⟩ := step_halted_cases hhalt hrst h
  · simp
  · have hregs : t.regs = s.regs := by rw [ht]; exact eventTaken_regs s
    refine ⟨by rw [hregs], by simp [htick], fun w hw hop => absurd ?_ hop⟩
    obtain rfl := Option.some.inj (hcmd.symm.trans hw)
    exact encode_rd_opcode sel
  · refine ⟨?_, by simp [htick], fun _ _ _ => eventTaken_rdata s⟩
    rw [raiseError_regs, eventTaken_regs, recordError_eq]

/-! ### A block without the test port (R194, 10_state.md R44) -/

/-- A run keeps what every step keeps. -/
theorem run_keeps {P : State → Prop} (hstep : ∀ s t, P s → step s = .next t → P t) (n : Nat) {s t : State} (hs : P s)
    (h : core.run n s = .next t) : P t := by
  induction n generalizing s with
  | zero => cases h; exact hs
  | succ n ih =>
    obtain ⟨u, hu⟩ := step_goes_on s
    have hrun : core.run (n + 1) s = core.run n u := by
      simp only [Host.Core.run]
      rw [show core.step s = .next u from hu]
    exact ih (hstep s u hs hu) (hrun ▸ h)

/-- No test port, no error recorded, nothing read. -/
structure Unobserved (s : State) : Prop where
  testPort : s.params.testPort = false
  errCause : s.regs.errCause = 0#4
  rdata : s.rdata = 0#32

theorem step_keeps_unobserved (s t : State) (hs : Unobserved s) (h : step s = .next t) : Unobserved t := by
  obtain ⟨hport, herr, hrdata⟩ := hs
  rw [← eventTaken_regs s] at herr
  rw [← eventTaken_rdata s] at hrdata
  suffices hkept : t.regs.errCause = 0#4 ∧ t.rdata = 0#32 from ⟨(step_keeps_params h) ▸ hport, hkept.1, hkept.2⟩
  obtain ⟨-, rfl⟩ | ⟨-, -, -, rfl⟩ | ⟨-, -, -, -, rfl⟩ | ⟨-, -, -, -, rfl⟩ | ⟨-, -, _, _, -, hbuilt, -⟩ |
    ⟨-, -, _, _, -, hbuilt, -⟩ | ⟨-, -, -, rfl⟩ := step_cases h
  · exact ⟨rfl, rfl⟩
  · exact ⟨herr, hrdata⟩
  · obtain ⟨hcause, -, hdata⟩ := runTick_keeps_record s.eventTaken
    exact ⟨hcause.trans herr, hdata.trans hrdata⟩
  · obtain ⟨hcause, -, hdata⟩ := runPonstep_keeps_record s.eventTaken
    exact ⟨hcause.trans herr, hdata.trans hrdata⟩
  · simp [hport] at hbuilt
  · simp [hport] at hbuilt
  · exact ⟨herr, hrdata⟩

/-- Settles O20, by induction on the number of steps: a strobe raises no error, and without the port no command runs. -/
theorem noErrorsWithoutTestPort : Obligations.NoErrorsWithoutTestPort := fun n _ _ hport herr hrdata h =>
  have hend := run_keeps step_keeps_unobserved n ⟨hport, herr, hrdata⟩ h
  ⟨hend.errCause, hend.rdata⟩

end Sys2Proof.Machine
